-- ==== Sys2Proof/Word.lean ====
section
/-! DEFINITION. The word types of the part: bytes of frames and of the configuration record, and instants of the clock. -/

namespace Sys2Proof

/-- Eight data bits: a character's data, an address, a tag, a byte of the configuration record. -/
abbrev Byte := BitVec 8

/-- A 16-bit field: a CRC, or the flag field of a CLEAR or of the alarm mask. -/
abbrev Word16 := BitVec 16

/-- An instant of the model's clock, or a length of time, in units of 0.05 µs: one count of the PWM
period (R120), of which every time the spec names is a whole number (log 1, DESIGN CHOICE). -/
abbrev Time := Nat

/-- The high byte of a 16-bit quantity; multi-byte fields are big-endian (00 section 1.6). -/
def hiByte (n : Nat) : Byte := BitVec.ofNat 8 (n / 256)

/-- The low byte of a 16-bit quantity. -/
def loByte (n : Nat) : Byte := BitVec.ofNat 8 n

/-- The two bytes of a 16-bit quantity, most significant first. -/
def be16 (n : Nat) : List Byte := [hiByte n, loByte n]

end Sys2Proof
end

