-- ==== Sys2Proof/Syntax.lean ====
section
/-! DEFINITION. The commands of the part: one constructor of `Instr` for each row of spec/opcode_table.json, with the
operands the rules of spec/ give that step (the table itself gives no bits and no fields). -/

namespace Sys2Proof

/-- One of the four luminaire channels CH0 to CH3 (07). -/
inductive ChannelId where
  | ch0 | ch1 | ch2 | ch3
  deriving DecidableEq, Repr

/-- The two optional parts of a peer table entry (R23, R24). -/
inductive PartKind where
  | levelPart | portalPart
  deriving DecidableEq, Repr

/-- The three override kinds (R101). -/
inductive OverrideKind where
  | full | floor | hold
  deriving DecidableEq, Repr

/-- One character of the zone line as it arrives: eight data bits, the mark bit, and the stop bit (R149). -/
structure LineChar where
  data : Byte
  mark : Bool
  stop : Bool
  deriving DecidableEq, Repr

/-- A whole frame of a known kind as it was received: the characters of section 10.1 less the kind, which the
command names, and the length, which is the number of payload bytes. -/
structure Frame where
  dest : Byte
  src : Byte
  tag : Byte
  payload : List Byte
  crc : Word16
  deriving DecidableEq, Repr

/-- The steps of the part, row by row of spec/opcode_table.json. -/
inductive Instr where
  /-- POWER_UP (R174) -/
  | powerUp
  /-- RSTN_ASSERT (R174) -/
  | rstnAssert
  /-- RSTN_RELEASE (R174) -/
  | rstnRelease
  /-- CONFIG_READ_COMPLETE (R170): `image` is the 96 bytes clocked in. -/
  | configReadComplete (image : List Byte)
  /-- SAMPLE_INSTANT (R2): `count` is what the converter gives if a conversion is taken. -/
  | sampleInstant (count : BitVec 12)
  /-- PHIN_LEAVES_BAND (R10) -/
  | phinLeavesBand
  /-- PHIN_RETURNS_TO_BAND (R10) -/
  | phinReturnsToBand
  /-- RECOVERY_TIMER_EXPIRY (R11) -/
  | recoveryTimerExpiry
  /-- PORTAL_REPORT_TIMER_EXPIRY (R14) -/
  | portalReportTimerExpiry
  /-- LEVEL_UPDATE (R82, R83) -/
  | levelUpdate
  /-- LISTENING_TIMER_EXPIRY (R92) -/
  | listeningTimerExpiry
  /-- PART_STALE (R32): the part named of the entry of `addr`. -/
  | partStale (addr : Byte) (part : PartKind)
  /-- PART_LOST (R32) -/
  | partLost (addr : Byte) (part : PartKind)
  /-- ENTRY_LOST (R33) -/
  | entryLost (addr : Byte)
  /-- CHARACTER_RECEIVED (R150) -/
  | characterReceived (c : LineChar)
  /-- LEVEL_FRAME (R27) -/
  | levelFrame (f : Frame)
  /-- PORTAL_FRAME (R28) -/
  | portalFrame (f : Frame)
  /-- IDENT_FRAME (R29) -/
  | identFrame (f : Frame)
  /-- OVERRIDE_FRAME (R103) -/
  | overrideFrame (f : Frame)
  /-- OVERRIDE_SECOND_TIMER_EXPIRY (R102): the entry of this source and kind. -/
  | overrideSecondTimerExpiry (source : Byte) (kind : OverrideKind)
  /-- TRIM_FRAME (R55) -/
  | trimFrame (f : Frame)
  /-- CLEAR_FRAME (R141) -/
  | clearFrame (f : Frame)
  /-- IDENT_REQ_FRAME (R155) -/
  | identReqFrame (f : Frame)
  /-- RESET_FRAME (R156) -/
  | resetFrame (f : Frame)
  /-- LINE_IDLE (R158) -/
  | lineIdle
  /-- ACCESS_WAIT_EXPIRY (R159) -/
  | accessWaitExpiry
  /-- CONTENT_SENT (R159) -/
  | contentSent
  /-- COLLISION (R159) -/
  | collision
  /-- TURNAROUND_GUARD_EXPIRY (R159) -/
  | turnaroundGuardExpiry
  /-- ACT_TIMER_EXPIRY (R161) -/
  | actTimerExpiry
  /-- FULLIN_PIN_CHANGE (R112): `closed` is the level of the pin after the change. -/
  | fullinPinChange (closed : Bool)
  /-- FULLIN_DEBOUNCE_EXPIRY (R113) -/
  | fullinDebounceExpiry
  /-- PROPAGATION_TIMER_EXPIRY (R114) -/
  | propagationTimerExpiry
  /-- PWM_PERIOD_START (R120) -/
  | pwmPeriodStart
  /-- OVERCURRENT_TRIP (R125) -/
  | overcurrentTrip (ch : ChannelId)
  /-- RETRY_TIMER_EXPIRY (R128) -/
  | retryTimerExpiry (ch : ChannelId)
  /-- TRIP_TIME_EXPIRY (R129): the oldest trip time of the channel's history. -/
  | tripTimeExpiry (ch : ChannelId)
  /-- OPEN_TIMER_EXPIRY (R132) -/
  | openTimerExpiry (ch : ChannelId)
  /-- LOAD_CURRENT_PULSE (R133): a pulse whose sensed current exceeds the open-load reference. -/
  | loadCurrentPulse (ch : ChannelId)
  /-- POWER_LOSS (R174) -/
  | powerLoss
  deriving DecidableEq, Repr

end Sys2Proof
end

