-- ==== Sys2Proof/WellFormed.lean ====
section
/-! DEFINITION. When a command is well formed: its operands are ones the outside can present to the part. The meanings do not
rest on this (they are total on every operand); it says which terms stand for an event of the spec. -/

namespace Sys2Proof

/-- An address that names a station: 1 to 254 (R21). -/
def isStationAddress (a : Byte) : Bool := a != 0 && a != 255

/-- A whole frame has a length character of at most 48 (R150). -/
def Frame.wellFormed (f : Frame) : Bool := decide (f.payload.length ≤ 48)

/-- A command is well formed: the record image has its 96 bytes (R170), a frame at most 48 payload bytes (R150), and an
address operand names a station (R21, R101). -/
def Instr.wellFormed : Instr → Bool
  | .configReadComplete image => image.length == 96
  | .partStale addr _ => isStationAddress addr
  | .partLost addr _ => isStationAddress addr
  | .entryLost addr => isStationAddress addr
  | .levelFrame f => f.wellFormed
  | .portalFrame f => f.wellFormed
  | .identFrame f => f.wellFormed
  | .overrideFrame f => f.wellFormed
  | .overrideSecondTimerExpiry source _ => isStationAddress source
  | .trimFrame f => f.wellFormed
  | .clearFrame f => f.wellFormed
  | .identReqFrame f => f.wellFormed
  | .resetFrame f => f.wellFormed
  | .powerUp => true
  | .rstnAssert => true
  | .rstnRelease => true
  | .sampleInstant _ => true
  | .phinLeavesBand => true
  | .phinReturnsToBand => true
  | .recoveryTimerExpiry => true
  | .portalReportTimerExpiry => true
  | .levelUpdate => true
  | .listeningTimerExpiry => true
  | .characterReceived _ => true
  | .lineIdle => true
  | .accessWaitExpiry => true
  | .contentSent => true
  | .collision => true
  | .turnaroundGuardExpiry => true
  | .actTimerExpiry => true
  | .fullinPinChange _ => true
  | .fullinDebounceExpiry => true
  | .propagationTimerExpiry => true
  | .pwmPeriodStart => true
  | .overcurrentTrip _ => true
  | .retryTimerExpiry _ => true
  | .tripTimeExpiry _ => true
  | .openTimerExpiry _ => true
  | .loadCurrentPulse _ => true
  | .powerLoss => true

end Sys2Proof
end

