-- ==== Sys2Proof/Config.lean ====
section
/-! DEFINITION. What is fixed in the silicon of one release of the part. -/

namespace Sys2Proof.Config

/-- "The revision of the first release of the LZ314 reads major 1, minor 0. The revision is fixed in the
silicon." (10 section 10.4) -/
def revisionMajor : Byte := 1

/-- See `revisionMajor`. -/
def revisionMinor : Byte := 0

end Sys2Proof.Config
end

