-- ==== Sys2Proof/Machine/Timing.lean ====
section
/-! DEFINITION. The fixed times and sizes of the part, in units of the clock (0.05 µs). -/

namespace Sys2Proof.Machine

/-- A number of milliseconds, in units of 0.05 µs. -/
def ms (n : Nat) : Time := n * 20000

/-- A number of seconds. -/
def sec (n : Nat) : Time := n * 20000000

/-- A number of microseconds. -/
def us (n : Nat) : Time := n * 20

/-- The time an idle step on an empty queue takes: one unit of the clock (log 3, DESIGN CHOICE). -/
def idleTick : Time := 1

/-- Level updates fall every 100 ms (R82). -/
def updatePeriod : Time := ms 100

/-- The PWM period is 500 µs (R120). -/
def pwmPeriod : Time := us 500

/-- The record read completes 792 µs after the reset (R170). -/
def configReadTime : Time := us 792

/-- The recovery timer runs for 1 s (R10). -/
def recoveryTime : Time := sec 1

/-- The ages of the peer table stay at 65,535 ms (R32). -/
def ageLimit : Time := ms 65535

/-- The time since the last LEVEL placement stays at 2000 ms (R95). -/
def placementLimit : Time := ms 2000

/-- An override entry's second timer runs for 1 s (R102). -/
def secondPeriod : Time := sec 1

/-- The FULLIN debounce interval is 30 ms (R112). -/
def debounceTime : Time := ms 30

/-- The propagation timer runs for 4 s (R114). -/
def propagationPeriod : Time := sec 4

/-- A trip time leaves the history 60 s after it was recorded (R129). -/
def tripMemory : Time := sec 60

/-- The open timer runs for 2 s (R132). -/
def openTime : Time := sec 2

/-- ACT is lit for 40 ms (R161). -/
def actLitTime : Time := ms 40

/-- ACT is guarded dark for 60 ms (R161). -/
def actGuardTime : Time := ms 60

/-- Full output in counts (00 section 1.5). -/
def fullLevel : Nat := 10000

/-- The peer table holds at most 32 entries (R21). -/
def tableSize : Nat := 32

/-- The override list holds at most 4 entries (R101). -/
def listSize : Nat := 4

/-- The trip history holds at most 3 times (R127, R129). -/
def historySize : Nat := 3

/-- Consecutive tripped periods that escalate (R126). -/
def trippedLimit : Nat := 64

/-- A content is dropped at its eighth collision (R160). -/
def attemptLimit : Nat := 8

/-- The longest payload a length character may announce (R150). -/
def maxPayload : Nat := 48

/-- The line becomes idle after 4 character times (R158). -/
def idleCharacters : Nat := 4

/-- Open-load detection needs a command of at least 1000 counts (R132). -/
def openLoadCommand : Nat := 1000

/-- The lowest and highest trim, in per-mille (R54). -/
def trimMin : Nat := 800

/-- See `trimMin`. -/
def trimMax : Nat := 1200

/-- A value brought into a range at the nearer limit (R3, R27, R28, R56, R103, R172). -/
def clampTo (lo hi v : Nat) : Nat := max lo (min v hi)

end Sys2Proof.Machine
end

