-- ==== Sys2Proof/Machine/State.lean ====
section
/-! DEFINITION. The state of the part as plain data: what each of the ten blocks of 00 section 1.3 holds, the pins, the clock and
the queue of waiting commands; and the state right after a power-on reset. -/

namespace Sys2Proof.Machine

/-! ### Names -/

/-- The portal sides (00 section 1.6). -/
inductive Side where
  | a | b
  deriving DecidableEq, Repr

/-- The station states (R90 to R94). -/
inductive StationState where
  | configuring | listening | running | fallback
  deriving DecidableEq, Repr

/-- The amplifier gains of the photometer front end (01 section 1.1). -/
inductive Gain where
  | g1 | g2 | g4 | g8 | g16
  deriving DecidableEq, Repr

/-- The channel states (R119). -/
inductive ChannelState where
  | off | driving | retryWait | latched
  deriving DecidableEq, Repr

/-- The protection modes (R125). -/
inductive ProtectionMode where
  | period | retry | latch
  deriving DecidableEq, Repr

/-- The over-current filter widths: 0, 0.5, 1 or 2 µs (07 section 7.1). -/
inductive FilterWidth where
  | zero | half | one | two
  deriving DecidableEq, Repr

/-- The bit rates of the zone line: 38,400 or 115,200 bit/s (R149). -/
inductive BitRate where
  | low | high
  deriving DecidableEq, Repr

/-- The freshness of a part of a peer table entry (R32). -/
inductive Freshness where
  | fresh | stale | lost
  deriving DecidableEq, Repr

/-- How a side's luminance was obtained at the last update (R41). -/
inductive SideStatus where
  | live | holding | onDefault
  deriving DecidableEq, Repr

/-- The governing terms (R74, R88). -/
inductive Term where
  | portalA | portalB | interior | neighbour | floor | full | hold | start | fallback
  deriving DecidableEq, Repr

/-- The thirteen fault flags (R139). -/
inductive Flag where
  | overcurrentLatched | openLoad | portalALost | portalBLost | sensorFault | capacity | neighbourLost
  | tableFull | collisionLimit | addressConflict | trimRefused | overrideRefused | configFault
  deriving DecidableEq, Repr

/-- The eight frame kinds (10 section 10.1). -/
inductive FrameKind where
  | level | portal | override | trim | clear | identReq | ident | reset
  deriving DecidableEq, Repr

/-- The four transmit slots (R157). -/
inductive SlotId where
  | override | portal | level | ident
  deriving DecidableEq, Repr

/-! ### The configuration loader -/

/-- A breakpoint of the profile (R60): a distance in metres and a ratio in per-mille. -/
structure Breakpoint where
  distance : Nat
  ratio : Nat
  deriving DecidableEq, Repr

/-- The loaded record: the table of 11 section 11.1 after the corrections of R172. Times are in the units of the table. -/
structure Record where
  address : Byte
  mask : Byte
  rate : BitRate
  side : Option Side
  fullScale : Nat
  channelCount : Nat
  yield : Nat
  distanceA : Nat
  distanceB : Option Nat
  neighbours : List Byte
  trimPermitted : Bool
  propagate : Bool
  profile : List Breakpoint
  thresholdRatio : Nat
  trimDefault : Nat
  stepRatio : Nat
  interior : Nat
  defaultLuminance : Nat
  holdTime : Nat
  staleTime : Nat
  lostTime : Nat
  reportPeriod : Nat
  samplePeriod : Nat
  riseLimit : Nat
  fallLimit : Nat
  mode : ProtectionMode
  filter : FilterWidth
  retryTime : Nat
  alarmMask : BitVec 13
  group : Byte
  deriving DecidableEq, Repr

/-- P and E as handed over after a structural failure (R173). -/
structure FallbackValues where
  reportPeriod : Nat
  yield : Nat
  deriving DecidableEq, Repr

/-- What the configuration loader holds (R170). -/
structure Loader where
  /-- The read under way and the instant at which it completes. -/
  readDue : Option Time
  record : Option Record
  fallback : Option FallbackValues
  /-- The CONFIG_FAULT condition (R140). -/
  configFault : Bool
  deriving DecidableEq, Repr

/-! ### The photometer front end -/

/-- A sample of the window: its luminance, its saturated note and the gain it was taken at (R7). -/
structure Sample where
  luminance : Nat
  saturated : Bool
  gain : Gain
  deriving DecidableEq, Repr

/-- What the photometer front end holds (01 section 1.1). -/
structure Photometer where
  gain : Gain
  sampleTimer : Option Time
  /-- The window, oldest first. -/
  window : List Sample
  /-- The own reading; none while it is invalid. -/
  reading : Option Nat
  readingGain : Gain
  saturated : Bool
  sensorFault : Bool
  recoveryTimer : Option Time
  reportTimer : Option Time
  tag : Byte
  lastReported : Nat
  /-- The instant of the last PORTAL placement; the entry to LISTENING counts as one (R15). -/
  placedAt : Time
  restartPending : Bool
  deriving DecidableEq, Repr

/-! ### The peer table -/

/-- A portal part (R23). Its age is the time since `takenAt`; `aged` is how far the events PART_STALE and PART_LOST have been taken
for it, which decides at the very instant an age reaches its limit (R32, R50, log 29). -/
structure PortalPart where
  side : Side
  luminance : Nat
  sensorFault : Bool
  restart : Bool
  tag : Byte
  takenAt : Time
  aged : Freshness
  deriving DecidableEq, Repr

/-- A level part (R24). Its age is the time since `takenAt`; `aged` is as in the portal part (R32, R70, log 29). -/
structure LevelPart where
  delivered : Nat
  restart : Bool
  tag : Byte
  takenAt : Time
  aged : Freshness
  deriving DecidableEq, Repr

/-- An entry (R22). The entry age is the time since `heardAt`; the role is `side` and `luminaire`. `agedOut`: ENTRY_LOST has been
taken for the present entry age (R33, log 29). -/
structure Entry where
  addr : Byte
  reserved : Bool
  side : Option Side
  luminaire : Bool
  heardAt : Time
  agedOut : Bool
  portal : Option PortalPart
  level : Option LevelPart
  deriving DecidableEq, Repr

/-- The peer table (R21): its entries in address order, and the NEIGHBOUR_LOST condition (R38). -/
structure PeerTable where
  entries : List Entry
  neighbourLost : Bool
  deriving DecidableEq, Repr

/-! ### The portal aggregator -/

/-- One side record (R41). The valid-reading age is the time since `validAt`, at most H, once `everValid` is set. -/
structure SideRecord where
  status : Option SideStatus
  lastAggregate : Option Nat
  everValid : Bool
  validAt : Time
  luminance : Option Nat
  /-- The PORTAL_X_LOST condition (R48). -/
  lost : Bool
  deriving DecidableEq, Repr

/-- The two side records. While side B is not served its record stays at its reset values (log 18). -/
structure Aggregator where
  a : SideRecord
  b : SideRecord
  deriving DecidableEq, Repr

/-! ### The demand calculator -/

/-- What the demand calculator holds (R54, R61, R73, R74, R76, R77). -/
structure Demand where
  trim : Nat
  lockDown : Bool
  pendingTrim : Option Nat
  ratioA : Option Nat
  ratioB : Option Nat
  target : Option Nat
  required : Option Nat
  term : Option Term
  /-- The required-level part of the CAPACITY condition. -/
  capacityPart : Bool
  deriving DecidableEq, Repr

/-! ### The level engine -/

/-- What the level engine holds (05 section 5.1). -/
structure LevelEngine where
  station : StationState
  /-- The output level C. -/
  level : Nat
  /-- The engine target T. -/
  target : Nat
  suspended : Bool
  reportedTerm : Option Term
  reportedTarget : Option Nat
  delivered : Nat
  updateTimer : Option Time
  listeningTimer : Option Time
  /-- The instant behind the time since the last LEVEL placement (R95). -/
  placedAt : Time
  /-- Set until the first update of LISTENING or FALLBACK has placed its content (R95). -/
  firstUpdate : Bool
  lastReported : Nat
  tag : Byte
  restartPending : Bool
  deriving DecidableEq, Repr

/-! ### The override list -/

/-- An entry of the override list (R101). `secondDue` is its second timer, always running. -/
structure OverrideEntry where
  source : Byte
  kind : OverrideKind
  /-- The floor level, for FLOOR entries only. -/
  floorLevel : Option Nat
  remaining : Nat
  secondDue : Time
  deriving DecidableEq, Repr

/-- The override list block (R101, R112, R114). -/
structure OverrideList where
  /-- The entries in order of arrival. -/
  entries : List OverrideEntry
  contactClosed : Bool
  debounceTimer : Option Time
  propagationTimer : Option Time
  deriving DecidableEq, Repr

/-! ### The channel block -/

/-- One channel (07 section 7.1). -/
structure Channel where
  state : ChannelState
  command : Nat
  applied : Nat
  openMark : Bool
  openTimer : Option Time
  /-- The consecutive-tripped-period count (R126). -/
  tripped : Nat
  /-- The trip history, oldest first (R127, R129). -/
  history : List Time
  retryTimer : Option Time
  /-- Set once a trip has ended the pulse of the present period (R120, R126). -/
  cut : Bool
  /-- The instant at which the present pulse began: the start of its period, or of an earlier one where the pulse has run on
  without a break (R120, R125, log 19). -/
  pulseStart : Time
  deriving DecidableEq, Repr

/-- The four channels and what the block holds as a whole. -/
structure ChannelBlock where
  c0 : Channel
  c1 : Channel
  c2 : Channel
  c3 : Channel
  held : Option Nat
  delivered : Nat
  /-- The delivery part of the CAPACITY condition (R124). -/
  capacityPart : Bool
  /-- The OVERCURRENT_LATCHED condition (R131). -/
  latchedCondition : Bool
  /-- The OPEN_LOAD condition (R133). -/
  openCondition : Bool
  pwmTimer : Option Time
  deriving DecidableEq, Repr

/-! ### The line controller -/

/-- The content of a transmit slot: a frame less its source and CRC (R157). -/
structure Content where
  dest : Byte
  kind : FrameKind
  tag : Byte
  payload : List Byte
  deriving DecidableEq, Repr

/-- A transmit slot (R157). -/
structure Slot where
  content : Option Content
  attempts : Nat
  deriving DecidableEq, Repr

/-- The four transmit slots. -/
structure Slots where
  override : Slot
  portal : Slot
  level : Slot
  ident : Slot
  deriving DecidableEq, Repr

/-- Where an attempt stands: in its access wait, or sending since `start` with `readBack` characters compared (R158, R159). -/
inductive Phase where
  | waiting (due : Time)
  | sending (start : Time) (readBack : Nat)
  deriving DecidableEq, Repr

/-- The attempt under way: the slot chosen, the content taken, and whether the slot was filled again since (R157, R158). -/
structure Attempt where
  slot : SlotId
  content : Content
  refilled : Bool
  phase : Phase
  deriving DecidableEq, Repr

/-- The activity indicator with its timer (R161). -/
inductive Act where
  | dark
  | lit (due : Time)
  | guarding (due : Time)
  deriving DecidableEq, Repr

/-- The station address, the group mask and the bit rate in use (R153, R173). -/
structure LineParams where
  address : Byte
  mask : Byte
  rate : BitRate
  deriving DecidableEq, Repr

/-- What the line controller holds (09). -/
structure LineControl where
  /-- The data bits of the characters assembled so far; empty while no frame is being assembled (R150). -/
  assembly : List Byte
  slots : Slots
  attempt : Option Attempt
  /-- The idle detector: the line is idle, and otherwise the instant from which its silence counts (R158, R162). -/
  idle : Bool
  lastChar : Time
  guardTimer : Option Time
  act : Act
  params : Option LineParams
  lineResets : Nat
  collisionDrops : Nat
  crcErrors : Nat
  deriving DecidableEq, Repr

/-! ### The fault record -/

/-- The fault record (R139, R143, R144): bit n of `flags` and `mask` is flag position n of R165. -/
structure FaultRecord where
  flags : BitVec 13
  mask : BitVec 13
  alarm : Bool
  deriving DecidableEq, Repr

end Sys2Proof.Machine

namespace Sys2Proof.Machine

/-- The state of the part. -/
structure State where
  /-- The model's clock (log 1). -/
  now : Time
  /-- The supply is above the supply-good level (R174). -/
  powered : Bool
  /-- RSTN is low (R174). -/
  rstnLow : Bool
  /-- The FULLIN pin reads closed (R112). -/
  fullinClosed : Bool
  /-- PHIN is inside the rail band (R10). -/
  phinInBand : Bool
  cl : Loader
  pfe : Photometer
  pt : PeerTable
  pa : Aggregator
  dc : Demand
  le : LevelEngine
  ol : OverrideList
  ch : ChannelBlock
  lc : LineControl
  fr : FaultRecord
  /-- The commands that wait, first in, first out. -/
  pending : List Instr
  deriving DecidableEq, Repr

/-- The reasons a step can stop with a fault: none. Every step of the spec goes on (a fault of the part is a flag of the
fault record, which is state), so no constructor exists and no step can answer a fault. -/
inductive Fault where
  deriving DecidableEq, Repr

/-- The reasons a step can be refused. -/
inductive Refusal where
  /-- The command has no meaning yet. No arm of `exec` raises it: every row of the table has its meaning. Stopping is safe. -/
  | notModelled (mnemonic : String)
  deriving DecidableEq, Repr

/-- What a meaning answers. -/
abbrev Result := Host.Outcome State Fault Refusal

/-! ### Reset values, block by block -/

/-- R170: no record, CONFIG_FAULT absent; the read itself is started by the end of the reset. -/
def Loader.atReset : Loader :=
  { readDue := none, record := none, fallback := none, configFault := false }

/-- R19. -/
def Photometer.atReset (now : Time) : Photometer :=
  { gain := .g16, sampleTimer := none, window := [], reading := none, readingGain := .g16, saturated := false,
    sensorFault := false, recoveryTimer := none, reportTimer := none, tag := 0, lastReported := 0, placedAt := now,
    restartPending := true }

/-- R40. -/
def PeerTable.atReset : PeerTable := { entries := [], neighbourLost := false }

/-- R52. -/
def SideRecord.atReset : SideRecord :=
  { status := none, lastAggregate := none, everValid := false, validAt := 0, luminance := none, lost := false }

/-- R52. -/
def Aggregator.atReset : Aggregator := { a := SideRecord.atReset, b := SideRecord.atReset }

/-- R54, R81. The trim value is 1000 until the record is read (log 11, DESIGN CHOICE). -/
def Demand.atReset (lockDown : Bool) : Demand :=
  { trim := 1000, lockDown := lockDown, pendingTrim := none, ratioA := none, ratioB := none, target := none,
    required := none, term := none, capacityPart := false }

/-- R100; the update timer is started by the end of the reset. -/
def LevelEngine.atReset (now : Time) : LevelEngine :=
  { station := .configuring, level := fullLevel, target := fullLevel, suspended := false, reportedTerm := none,
    reportedTarget := none, delivered := 0, updateTimer := none, listeningTimer := none, placedAt := now,
    firstUpdate := true, lastReported := 0, tag := 0, restartPending := true }

/-- R117; the debounce timer is started by the end of the reset where the pin reads closed. -/
def OverrideList.atReset : OverrideList :=
  { entries := [], contactClosed := false, debounceTimer := none, propagationTimer := none }

/-- R137. -/
def Channel.atReset : Channel :=
  { state := .off, command := 0, applied := 0, openMark := false, openTimer := none, tripped := 0, history := [],
    retryTimer := none, cut := false, pulseStart := 0 }

/-- R137; the PWM period timer is started by the end of the reset. -/
def ChannelBlock.atReset : ChannelBlock :=
  { c0 := Channel.atReset, c1 := Channel.atReset, c2 := Channel.atReset, c3 := Channel.atReset, held := none,
    delivered := 0, capacityPart := false, latchedCondition := false, openCondition := false, pwmTimer := none }

/-- R162: an empty slot, with an attempt count of 0. -/
def Slot.empty : Slot := { content := none, attempts := 0 }

/-- R162: all four slots empty. -/
def Slots.empty : Slots := { override := Slot.empty, portal := Slot.empty, level := Slot.empty, ident := Slot.empty }

/-- R162, with the three line counters as R148 leaves them. -/
def LineControl.atReset (now : Time) (lineResets collisionDrops crcErrors : Nat) : LineControl :=
  { assembly := [], slots := Slots.empty, attempt := none, idle := false, lastChar := now, guardTimer := none,
    act := .dark, params := none, lineResets := lineResets, collisionDrops := collisionDrops, crcErrors := crcErrors }

/-- R146: no flag set, every flag enabled in the mask, ALARM deasserted. -/
def FaultRecord.atReset : FaultRecord := { flags := 0, mask := BitVec.allOnes 13, alarm := false }

/-- The machine right after a power-on reset with RSTN high: every block at its power-on values, CONFIGURING, the update and
PWM timers started and the configuration read begun (R170, R174). The pins read open and inside the band, and the clock
stands at 0 (log 9, DESIGN CHOICE). -/
def State.reset : State :=
  { now := 0, powered := true, rstnLow := false, fullinClosed := false, phinInBand := true,
    cl := { Loader.atReset with readDue := some configReadTime },
    pfe := Photometer.atReset 0,
    pt := PeerTable.atReset,
    pa := Aggregator.atReset,
    dc := Demand.atReset false,
    le := { LevelEngine.atReset 0 with updateTimer := some updatePeriod },
    ol := OverrideList.atReset,
    ch := { ChannelBlock.atReset with pwmTimer := some pwmPeriod },
    lc := LineControl.atReset 0 0 0 0,
    fr := FaultRecord.atReset,
    pending := [] }

end Sys2Proof.Machine
end

