-- ==== Sys2Proof/Machine/Operands.lean ====
section
/-! DEFINITION. The operand forms: bytes and multi-byte fields, the CRC, the outer form of a frame, and the payload of every
frame kind, read and written by the layouts of 10 (frame reference). -/

namespace Sys2Proof.Machine

/-! ### Bytes and fields -/

/-- Byte `i` of a payload; a byte beyond its end reads 0. -/
def byteAt (p : List Byte) (i : Nat) : Byte := p.getD i 0

/-- The big-endian 16-bit field whose high byte is byte `i` (10, opening paragraph). -/
def fieldAt (p : List Byte) (i : Nat) : Nat := (byteAt p i).toNat * 256 + (byteAt p (i + 1)).toNat

/-! ### The CRC (R151) -/

/-- One bit of the CRC division by x^16 + x^12 + x^5 + 1. -/
def crcBit (c : Word16) : Word16 := if c.msb then (c <<< 1) ^^^ 0x1021#16 else c <<< 1

/-- One byte of the CRC, most significant bit first. -/
def crcByte (c : Word16) (b : Byte) : Word16 :=
  let c0 := c ^^^ (b.setWidth 16 <<< 8)
  crcBit (crcBit (crcBit (crcBit (crcBit (crcBit (crcBit (crcBit c0)))))))

/-- The CRC of a sequence of bytes: initial value 0xFFFF, no reflection, no final inversion (R151). -/
def crc16 (bytes : List Byte) : Word16 := bytes.foldl crcByte 0xFFFF#16

/-! ### Codes -/

/-- The code of a frame kind (10 section 10.1). -/
def FrameKind.code : FrameKind → Byte
  | .level => 1 | .portal => 2 | .override => 3 | .trim => 4 | .clear => 5 | .identReq => 6 | .ident => 7 | .reset => 8

/-- The frame kind a kind character names, if it is one of 1 to 8. -/
def FrameKind.ofCode (b : Byte) : Option FrameKind :=
  if b = 1 then some .level else if b = 2 then some .portal else if b = 3 then some .override
  else if b = 4 then some .trim else if b = 5 then some .clear else if b = 6 then some .identReq
  else if b = 7 then some .ident else if b = 8 then some .reset else none

/-- Whether a length character fits the kind (R151): a fixed payload length for every kind but IDENT, 4–48 for IDENT. -/
def FrameKind.lengthFits (k : FrameKind) (len : Nat) : Bool :=
  match k with
  | .level => len == 11
  | .portal => len == 5
  | .override => len == 5
  | .trim => len == 3
  | .clear => len == 3
  | .identReq => len == 0
  | .ident => decide (4 ≤ len) && decide (len ≤ 48)
  | .reset => len == 0

/-- Side code 1 is side A, 2 side B (R166). -/
def Side.code : Side → Byte
  | .a => 1 | .b => 2

/-- The side a side byte names, if any. -/
def Side.ofCode (b : Byte) : Option Side := if b = 1 then some .a else if b = 2 then some .b else none

/-- The gain as a number (R166). -/
def Gain.value : Gain → Nat
  | .g1 => 1 | .g2 => 2 | .g4 => 4 | .g8 => 8 | .g16 => 16

/-- Half the gain; gain 1 stays (R4). -/
def Gain.halve : Gain → Gain
  | .g1 => .g1 | .g2 => .g1 | .g4 => .g2 | .g8 => .g4 | .g16 => .g8

/-- Twice the gain; gain 16 stays (R4). -/
def Gain.double : Gain → Gain
  | .g1 => .g2 | .g2 => .g4 | .g4 => .g8 | .g8 => .g16 | .g16 => .g16

/-- The state code of bits 0–1 of the LEVEL state byte (R165); 0 would stand for CONFIGURING. -/
def StationState.code : StationState → Byte
  | .configuring => 0 | .listening => 1 | .running => 2 | .fallback => 3

/-- The governing term code (R165). -/
def Term.code : Term → Byte
  | .portalA => 1 | .portalB => 2 | .interior => 3 | .neighbour => 4 | .floor => 5 | .full => 6 | .hold => 7
  | .start => 8 | .fallback => 9

/-- The channel state code of the CHANNELS record (10 section 10.4). -/
def ChannelState.code : ChannelState → Byte
  | .off => 0 | .driving => 1 | .retryWait => 2 | .latched => 3

/-- The protection mode code (10 section 10.4, 11 section 11.1). -/
def ProtectionMode.code : ProtectionMode → Byte
  | .period => 1 | .retry => 2 | .latch => 3

/-- The override kind code (R167). -/
def overrideCode : OverrideKind → Byte
  | .full => 1 | .floor => 2 | .hold => 3

/-- The override kind a kind byte names, if any (R103, R167). -/
def overrideOfCode (b : Byte) : Option OverrideKind :=
  if b = 1 then some .full else if b = 2 then some .floor else if b = 3 then some .hold else none

/-- The channel's number. -/
def channelNumber (k : ChannelId) : Nat :=
  match k with
  | .ch0 => 0 | .ch1 => 1 | .ch2 => 2 | .ch3 => 3

/-- The four channels in order. -/
def allChannels : List ChannelId := [.ch0, .ch1, .ch2, .ch3]

/-- A mark at bit `n` of a byte. -/
def markBit (n : Nat) (m : Bool) : Byte := if m then 1#8 <<< n else 0

/-! ### The outer form of a frame (10 section 10.1) -/

/-- A frame as the characters give it, before it is checked: kind and length as received. -/
structure RawFrame where
  dest : Byte
  src : Byte
  kind : Byte
  tag : Byte
  len : Nat
  payload : List Byte
  crc : Word16
  deriving DecidableEq, Repr

/-- The bytes the CRC covers: from the destination to the last payload byte (R151). -/
def RawFrame.covered (r : RawFrame) : List Byte :=
  r.dest :: r.src :: r.kind :: r.tag :: BitVec.ofNat 8 r.len :: r.payload

/-- The raw frame of a whole frame of kind `k`. -/
def rawOfFrame (k : FrameKind) (f : Frame) : RawFrame :=
  { dest := f.dest, src := f.src, kind := k.code, tag := f.tag, len := f.payload.length, payload := f.payload, crc := f.crc }

/-- The raw frame of an assembly of 7 + L characters (R150). -/
def rawOfAssembly (bytes : List Byte) : RawFrame :=
  let len := (byteAt bytes 4).toNat
  { dest := byteAt bytes 0, src := byteAt bytes 1, kind := byteAt bytes 2, tag := byteAt bytes 3, len := len,
    payload := (bytes.drop 5).take len,
    crc := byteAt bytes (5 + len) ++ byteAt bytes (6 + len) }

/-- The characters of a frame's bytes: the mark bit is 1 on the first only (R149). -/
def markedChars : List Byte → List LineChar
  | [] => []
  | b :: rest => { data := b, mark := true, stop := true } :: rest.map fun d => { data := d, mark := false, stop := true }

/-- All bytes of a frame with these fields, CRC included, high byte first (R151, R164). -/
def frameBytes (dest src kind tag : Byte) (payload : List Byte) : List Byte :=
  let body := dest :: src :: kind :: tag :: BitVec.ofNat 8 payload.length :: payload
  body ++ be16 (crc16 body).toNat

/-- The characters sent for a content by the station of address `s` (R159, R164). -/
def Content.chars (c : Content) (s : Byte) : List LineChar := markedChars (frameBytes c.dest s c.kind.code c.tag c.payload)

/-- The characters of a frame as its sender put them on the line: the fields of the frame, with its own CRC. -/
def frameChars (k : FrameKind) (f : Frame) : List LineChar :=
  markedChars ((rawOfFrame k f).covered ++ be16 f.crc.toNat)

/-- A frame with the CRC that belongs to it. -/
def sealedFrame (k : FrameKind) (dest src tag : Byte) (payload : List Byte) : Frame :=
  { dest := dest, src := src, tag := tag, payload := payload,
    crc := crc16 (dest :: src :: k.code :: tag :: BitVec.ofNat 8 payload.length :: payload) }

/-! ### Report payloads (R165, R166) -/

/-- What a peer table reads from a LEVEL frame (R24, R165). -/
structure LevelReport where
  delivered : Nat
  restart : Bool
  configured : Nat
  deriving DecidableEq, Repr

/-- R165: delivered luminance in bytes 0–1, RESTART mark in bit 7 of byte 6, configured count in bits 4–7 of byte 8. -/
def readLevel (p : List Byte) : LevelReport :=
  { delivered := fieldAt p 0, restart := (byteAt p 6).getLsbD 7, configured := (byteAt p 8).toNat / 16 }

/-- What a peer table reads from a PORTAL frame (R23, R166). -/
structure PortalReport where
  side : Option Side
  luminance : Nat
  sensorFault : Bool
  restart : Bool
  deriving DecidableEq, Repr

/-- R166: side in byte 0, luminance in bytes 1–2, SENSOR_FAULT and RESTART marks in bits 1 and 7 of byte 4. -/
def readPortal (p : List Byte) : PortalReport :=
  { side := Side.ofCode (byteAt p 0), luminance := fieldAt p 1, sensorFault := (byteAt p 4).getLsbD 1,
    restart := (byteAt p 4).getLsbD 7 }

/-- The named fields of a LEVEL content (R97). -/
structure LevelFields where
  delivered : Nat
  target : Nat
  level : Nat
  station : StationState
  suspended : Bool
  restart : Bool
  term : Option Term
  configured : Nat
  healthy : Nat
  flags : BitVec 13
  deriving DecidableEq, Repr

/-- R165: the 11 bytes of a LEVEL payload. Term code 0 is never sent, since the first update has named a term. -/
def writeLevel (f : LevelFields) : List Byte :=
  be16 f.delivered ++ be16 f.target ++ be16 f.level ++
    [f.station.code ||| markBit 6 f.suspended ||| markBit 7 f.restart,
     (f.term.map Term.code).getD 0,
     BitVec.ofNat 8 (f.configured * 16 + f.healthy)] ++
    be16 f.flags.toNat

/-- The named fields of a PORTAL content (R16). -/
structure PortalFields where
  side : Side
  luminance : Nat
  gain : Gain
  saturated : Bool
  sensorFault : Bool
  restart : Bool
  deriving DecidableEq, Repr

/-- R166: the 5 bytes of a PORTAL payload. -/
def writePortal (f : PortalFields) : List Byte :=
  [f.side.code] ++ be16 f.luminance ++
    [BitVec.ofNat 8 f.gain.value, markBit 0 f.saturated ||| markBit 1 f.sensorFault ||| markBit 7 f.restart]

/-! ### Command payloads (R167) -/

/-- The named fields of an OVERRIDE payload. -/
structure OverrideFields where
  kind : Option OverrideKind
  level : Nat
  duration : Nat
  deriving DecidableEq, Repr

/-- R167: kind in byte 0, level in bytes 1–2, duration in bytes 3–4. -/
def readOverride (p : List Byte) : OverrideFields :=
  { kind := overrideOfCode (byteAt p 0), level := fieldAt p 1, duration := fieldAt p 3 }

/-- R167: the 5 bytes of an OVERRIDE payload. -/
def writeOverride (kind : OverrideKind) (level duration : Nat) : List Byte :=
  [overrideCode kind] ++ be16 level ++ be16 duration

/-- The named fields of a TRIM payload. -/
structure TrimFields where
  trim : Nat
  lock : Byte
  deriving DecidableEq, Repr

/-- R167: trim in bytes 0–1, lock in byte 2. -/
def readTrim (p : List Byte) : TrimFields := { trim := fieldAt p 0, lock := byteAt p 2 }

/-- The named fields of a CLEAR payload: bits 13–15 of the flag field and bits 4–7 of the channel byte are not read (R163, R167). -/
structure ClearFields where
  flags : BitVec 13
  channels : Byte
  deriving DecidableEq, Repr

/-- R167: flags in bytes 0–1, channels in byte 2. -/
def readClear (p : List Byte) : ClearFields :=
  { flags := BitVec.ofNat 13 (fieldAt p 0), channels := byteAt p 2 }

/-- Whether the channel byte of a CLEAR names a channel (R167). -/
def ClearFields.namesChannel (f : ClearFields) (k : ChannelId) : Bool := f.channels.getLsbD (channelNumber k)

/-! ### The capability chain (R168, R169) -/

/-- A record of the chain: its kind, then its length and its content. -/
def chainRecord (kind : Byte) (content : List Byte) : List Byte := kind :: BitVec.ofNat 8 content.length :: content

/-- The records of a chain, read from the first byte onward; the reading ends at the end of the payload, or at a record
whose length would run past it, which is not used (R169). `fuel` bounds the number of records. -/
def chainRecords : Nat → List Byte → List (Byte × List Byte)
  | fuel + 1, kind :: len :: rest =>
    if len.toNat ≤ rest.length then (kind, rest.take len.toNat) :: chainRecords fuel (rest.drop len.toNat) else []
  | _, _ => []

/-- The content of the last whole record of a kind (R169). -/
def lastRecord (kind : Byte) (p : List Byte) : Option (List Byte) :=
  ((chainRecords p.length p).reverse.find? fun r => r.1 == kind).map Prod.snd

/-- The role an IDENT gives: the side of its PHOTOMETER record, and whether it has a CHANNELS record (R31, R169). A
PHOTOMETER record with no content has no side byte and gives side none (log 20, DEDUCED). -/
def readRole (p : List Byte) : Option Side × Bool :=
  ((lastRecord 2 p).bind (fun c => Side.ofCode (byteAt c 0)), (lastRecord 3 p).isSome)

end Sys2Proof.Machine
end

