-- ==== Sys2Proof/Machine/Flags.lean ====
section
/-! DEFINITION. The fault record: the position of each flag, raising, clearing, and the ALARM output (R139 to R145). -/

namespace Sys2Proof.Machine

/-- The flag's position in the flag table of R165. -/
def Flag.position : Flag → Nat
  | .overcurrentLatched => 0 | .openLoad => 1 | .portalALost => 2 | .portalBLost => 3 | .sensorFault => 4
  | .capacity => 5 | .neighbourLost => 6 | .tableFull => 7 | .collisionLimit => 8 | .addressConflict => 9
  | .trimRefused => 10 | .overrideRefused => 11 | .configFault => 12

/-- The thirteen flags in order of position. -/
def allFlags : List Flag :=
  [.overcurrentLatched, .openLoad, .portalALost, .portalBLost, .sensorFault, .capacity, .neighbourLost, .tableFull,
   .collisionLimit, .addressConflict, .trimRefused, .overrideRefused, .configFault]

/-- The flag alone, at its position. -/
def Flag.bit (f : Flag) : BitVec 13 := 1#13 <<< f.position

/-- Whether a flag is set. -/
def FaultRecord.isSet (fr : FaultRecord) (f : Flag) : Bool := fr.flags.getLsbD f.position

/-- The fault record with these flags, ALARM examined again: it is asserted exactly when a flag enabled in the mask is set (R141, R144). -/
def FaultRecord.withFlags (fr : FaultRecord) (flags : BitVec 13) : FaultRecord :=
  { flags := flags, mask := fr.mask, alarm := flags &&& fr.mask != 0 }

/-- A flag is set where its owner raises it (R139); one that is set already stays set. -/
def FaultRecord.raiseIf (fr : FaultRecord) (present : Bool) (f : Flag) : FaultRecord :=
  if present then fr.withFlags (fr.flags ||| f.bit) else fr

/-- The flags a CLEAR clears: those it names whose condition is absent (R141). -/
def FaultRecord.clearFlags (fr : FaultRecord) (named present : BitVec 13) : FaultRecord :=
  fr.withFlags (fr.flags &&& ~~~(named &&& ~~~present))

/-- The mask takes a value, and ALARM is examined again (R143, R144). -/
def FaultRecord.withMask (fr : FaultRecord) (mask : BitVec 13) : FaultRecord :=
  { flags := fr.flags, mask := mask, alarm := fr.flags &&& mask != 0 }

/-- A block raises a condition or an event to the fault record. -/
def State.raiseIf (s : State) (present : Bool) (f : Flag) : State := { s with fr := s.fr.raiseIf present f }

/-- The condition behind a flag, as its owner holds it (R139). Event flags have none. -/
def State.condition (s : State) (f : Flag) : Bool :=
  match f with
  | .overcurrentLatched => s.ch.latchedCondition
  | .openLoad => s.ch.openCondition
  | .portalALost => s.pa.a.lost
  | .portalBLost => s.pa.b.lost
  | .sensorFault => s.pfe.sensorFault
  | .capacity => s.dc.capacityPart || s.ch.capacityPart
  | .neighbourLost => s.pt.neighbourLost
  | .tableFull => false
  | .collisionLimit => false
  | .addressConflict => false
  | .trimRefused => false
  | .overrideRefused => false
  | .configFault => s.cl.configFault

/-- The conditions present, each at its flag's position. -/
def State.conditions (s : State) : BitVec 13 :=
  allFlags.foldl (fun acc f => if s.condition f then acc ||| f.bit else acc) 0

end Sys2Proof.Machine
end

