-- ==== Sys2Proof/Machine/Record.lean ====
section
/-! DEFINITION. The configuration record: its bytes, the structural checks, the corrections, and what is handed over in
FALLBACK (R60, R170 to R173). -/

namespace Sys2Proof.Machine

/-- The 96 bytes of the read. A byte that the operand does not give reads 0xFF, as SDI floats to its pull-up (R170), and
bytes beyond the 96th are not clocked (log 12, DESIGN CHOICE; a well-formed command has exactly 96). -/
def recordImage (image : List Byte) : List Byte := (image ++ List.replicate 96 0xFF#8).take 96

/-- The memory gave no response: all bytes 0xFF or all 0x00 (R170). -/
def noResponse (p : List Byte) : Bool := p.all (· == 0xFF) || p.all (· == 0x00)

/-- The CRC over bytes 0–93 equals bytes 94–95 (R171). -/
def recordCrcGood (p : List Byte) : Bool := (crc16 (p.take 94)).toNat == fieldAt p 94

/-- The breakpoint in place `i` (11 section 11.1). -/
def breakpointAt (p : List Byte) (i : Nat) : Breakpoint :=
  { distance := fieldAt p (17 + 4 * i), ratio := fieldAt p (19 + 4 * i) }

/-- The profile: the breakpoint places up to the count; places beyond it are not part of it (R60). -/
def recordProfile (p : List Byte) : List Breakpoint := (List.range (byteAt p 16).toNat).map (breakpointAt p)

/-- Each later breakpoint lies further out, at most at 2000 m, with a ratio no greater (R60). -/
def profileDescends : List Breakpoint → Bool
  | b :: c :: rest =>
    decide (b.distance < c.distance) && decide (c.distance ≤ 2000) && decide (c.ratio ≤ b.ratio) && profileDescends (c :: rest)
  | _ => true

/-- A profile is usable (R60). -/
def profileUsable (profile : List Breakpoint) : Bool :=
  decide (2 ≤ profile.length) && decide (profile.length ≤ 12) &&
    (profile.head?.map (·.distance) == some 0) && profile.all (fun b => decide (b.ratio ≤ 1000)) && profileDescends profile

/-- The read has a structural failure (R171). -/
def structuralFailure (p : List Byte) : Bool :=
  noResponse p || !recordCrcGood p || byteAt p 0 == 0 || byteAt p 0 == 255 ||
    !profileUsable (recordProfile p)

/-! ### Fields of a good record (R172) -/

/-- A value lies in its range. -/
def inRange (lo hi v : Nat) : Bool := decide (lo ≤ v) && decide (v ≤ hi)

/-- The numeric fields of a record with their ranges, for the check whether R172 corrects any of them. -/
def numericFields (p : List Byte) : List (Nat × Nat × Nat) :=
  [(2000, 20000, fieldAt p 4), (0, 4, (byteAt p 6).toNat), (10, 2000, fieldAt p 7), (0, 2000, fieldAt p 9),
   (30, 100, (byteAt p 65).toNat), (800, 1200, fieldAt p 66), (15, 50, (byteAt p 68).toNat), (1, 50, (byteAt p 69).toNat),
   (1000, 16000, fieldAt p 70), (5, 300, fieldAt p 72), (500, 10000, fieldAt p 74), (2000, 60000, fieldAt p 76),
   (250, 2000, fieldAt p 78), (100, 1000, fieldAt p 80), (100, 10000, fieldAt p 82), (1, 1000, fieldAt p 84),
   (1, 60, (byteAt p 88).toNat)]

/-- A presence mark of byte 13. -/
def presence (p : List Byte) (n : Nat) : Bool := (byteAt p 13).getLsbD n

/-- The bit rate a code names (11 section 11.1). -/
def BitRate.ofCode (b : Byte) : Option BitRate := if b = 0 then some .low else if b = 1 then some .high else none

/-- The photometer side a code names: none for code 0 (11 section 11.1). -/
def photometerSide (b : Byte) : Option (Option Side) :=
  if b = 0 then some none else if b = 1 then some (some .a) else if b = 2 then some (some .b) else none

/-- The protection mode a code names. -/
def ProtectionMode.ofCode (b : Byte) : Option ProtectionMode :=
  if b = 1 then some .period else if b = 2 then some .retry else if b = 3 then some .latch else none

/-- The filter width a code names. -/
def FilterWidth.ofCode (b : Byte) : Option FilterWidth :=
  if b = 0 then some .zero else if b = 1 then some .half else if b = 2 then some .one else if b = 3 then some .two else none

/-- The neighbours whose presence marks are set, as written. -/
def presentNeighbours (p : List Byte) : List Byte :=
  (if presence p 0 then [byteAt p 14] else []) ++ (if presence p 1 then [byteAt p 15] else [])

/-- A neighbour address can name a peer: it is not 0, 255 or S (R26, R172). -/
def canNamePeer (own a : Byte) : Bool := a != 0 && a != 255 && a != own

/-- Equal neighbours are merged into one (R172). -/
def mergeEqual : List Byte → List Byte
  | [x, y] => if x = y then [x] else [x, y]
  | l => l

/-- The neighbours that remain (R26, R172). -/
def usableNeighbours (p : List Byte) : List Byte := mergeEqual ((presentNeighbours p).filter (canNamePeer (byteAt p 0)))

/-- The stale time after its clamping. -/
def staleOf (p : List Byte) : Nat := clampTo 500 10000 (fieldAt p 74)

/-- The lost time after its clamping, before it is compared with the stale time. -/
def lostClamped (p : List Byte) : Nat := clampTo 2000 60000 (fieldAt p 76)

/-- R172 makes at least one correction. -/
def needsCorrection (p : List Byte) : Bool :=
  (numericFields p).any (fun f => !inRange f.1 f.2.1 f.2.2) ||
    (presence p 2 && !inRange 0 2000 (fieldAt p 11)) ||
    (presence p 4 && byteAt p 91 == 0) ||
    (BitRate.ofCode (byteAt p 2)).isNone || (photometerSide (byteAt p 3)).isNone ||
    (ProtectionMode.ofCode (byteAt p 86)).isNone || (FilterWidth.ofCode (byteAt p 87)).isNone ||
    decide (lostClamped p ≤ staleOf p) ||
    decide ((usableNeighbours p).length < (presentNeighbours p).length)

/-- The loaded record: every field of the table of 11 section 11.1, corrected by R172. -/
def correctedRecord (p : List Byte) : Record :=
  { address := byteAt p 0,
    mask := byteAt p 1,
    rate := (BitRate.ofCode (byteAt p 2)).getD .low,
    side := (photometerSide (byteAt p 3)).getD none,
    fullScale := clampTo 2000 20000 (fieldAt p 4),
    channelCount := clampTo 0 4 (byteAt p 6).toNat,
    yield := clampTo 10 2000 (fieldAt p 7),
    distanceA := clampTo 0 2000 (fieldAt p 9),
    distanceB := if presence p 2 then some (clampTo 0 2000 (fieldAt p 11)) else none,
    neighbours := usableNeighbours p,
    trimPermitted := presence p 3,
    propagate := presence p 4,
    profile := recordProfile p,
    thresholdRatio := clampTo 30 100 (byteAt p 65).toNat,
    trimDefault := clampTo 800 1200 (fieldAt p 66),
    stepRatio := clampTo 15 50 (byteAt p 68).toNat,
    interior := clampTo 1 50 (byteAt p 69).toNat,
    defaultLuminance := clampTo 1000 16000 (fieldAt p 70),
    holdTime := clampTo 5 300 (fieldAt p 72),
    staleTime := staleOf p,
    lostTime := if lostClamped p ≤ staleOf p then 2 * staleOf p else lostClamped p,
    reportPeriod := clampTo 250 2000 (fieldAt p 78),
    samplePeriod := clampTo 100 1000 (fieldAt p 80),
    riseLimit := clampTo 100 10000 (fieldAt p 82),
    fallLimit := clampTo 1 1000 (fieldAt p 84),
    mode := (ProtectionMode.ofCode (byteAt p 86)).getD .retry,
    filter := (FilterWidth.ofCode (byteAt p 87)).getD .one,
    retryTime := clampTo 1 60 (byteAt p 88).toNat,
    alarmMask := BitVec.ofNat 13 (fieldAt p 89),
    group := if presence p 4 && byteAt p 91 == 0 then 1 else byteAt p 91 }

/-! ### What is handed over after a structural failure (R173) -/

/-- S in FALLBACK: the address byte when it lies in 1–254; 254 otherwise, and when the memory gave no response. -/
def fallbackAddress (p : List Byte) : Byte :=
  if noResponse p || byteAt p 0 == 0 || byteAt p 0 == 255 then 254 else byteAt p 0

/-- S, M and the bit rate in FALLBACK. -/
def fallbackLine (p : List Byte) : LineParams :=
  { address := fallbackAddress p, mask := 0xFF, rate := (BitRate.ofCode (byteAt p 2)).getD .low }

/-- P and E in FALLBACK. -/
def fallbackValues (p : List Byte) : FallbackValues :=
  if noResponse p then { reportPeriod := 500, yield := 10 }
  else { reportPeriod := clampTo 250 2000 (fieldAt p 78), yield := clampTo 10 2000 (fieldAt p 7) }

/-- The trim default in FALLBACK. -/
def fallbackTrim (p : List Byte) : Nat :=
  if noResponse p then 1000 else clampTo 800 1200 (fieldAt p 66)

/-- A record of the table's defaults, with the smallest values where the table has none: what an accessor reads in a state
that holds no record, which no run reaches in LISTENING or RUNNING (log 26). -/
def Record.placeholder : Record :=
  { address := 254, mask := 0xFF, rate := .low, side := none, fullScale := 16000, channelCount := 0, yield := 10,
    distanceA := 0, distanceB := none, neighbours := [], trimPermitted := true, propagate := false, profile := [],
    thresholdRatio := 60, trimDefault := 1000, stepRatio := 30, interior := 5, defaultLuminance := 8000, holdTime := 60,
    staleTime := 2000, lostTime := 10000, reportPeriod := 500, samplePeriod := 250, riseLimit := 2000, fallLimit := 50,
    mode := .retry, filter := .one, retryTime := 5, alarmMask := BitVec.allOnes 13, group := 255 }

end Sys2Proof.Machine
end

