-- ==== Sys2Proof/Machine/Ops.lean ====
section
/-! DEFINITION. The shared operations: the clock, what the configuration gives the blocks, channels and slots by name, filling a
transmit slot, starting an attempt, computing the channel commands, and the reset of every block. -/

namespace Sys2Proof.Machine

/-! ### The clock (log 1, log 2) -/

/-- Time passes. Every timer and every age is kept as an instant, so nothing else changes. -/
def State.elapse (s : State) (d : Time) : State := { s with now := s.now + d }

/-- The clock comes to an instant, unless it stands there or beyond: an expiry happens when its set time has run out (log 2). -/
def State.elapseTo (s : State) (t : Time) : State := { s with now := max s.now t }

/-- The age of something restarted at `t`, which stays at `limit` once it has reached it (R32, R41, R95). -/
def ageAt (now t limit : Time) : Time := min (now - t) limit

/-! ### What the configuration gives -/

/-- The loaded record. -/
def State.cfg (s : State) : Record := s.cl.record.getD Record.placeholder

/-- The station is in LISTENING or RUNNING: the states in which it measures, listens to its peers and holds overrides. -/
def StationState.regulates : StationState → Bool
  | .listening => true
  | .running => true
  | .configuring => false
  | .fallback => false

/-- The line controller receives and sends in every state but CONFIGURING (R150, R162). -/
def StationState.onLine : StationState → Bool
  | .configuring => false
  | .listening => true
  | .running => true
  | .fallback => true

/-- The photometer front end is on: LISTENING or RUNNING with a photometer side configured (R1). -/
def State.pfeOn (s : State) : Bool := s.le.station.regulates && s.cfg.side.isSome

/-- The report period P, in ms: the record's, or the one handed over in FALLBACK (R173). -/
def State.reportPeriod (s : State) : Nat :=
  match s.cl.record with
  | some r => r.reportPeriod
  | none => (s.cl.fallback.map FallbackValues.reportPeriod).getD 500

/-- The configured yield E: the record's, or the one handed over in FALLBACK (R173). -/
def State.yieldE (s : State) : Nat :=
  match s.cl.record with
  | some r => r.yield
  | none => (s.cl.fallback.map FallbackValues.yield).getD 10

/-- S, M and the bit rate in use. -/
def State.line (s : State) : LineParams := s.lc.params.getD { address := 254, mask := 0xFF, rate := .low }

/-- The character time: 286.5 µs at 38,400 bit/s, 95.5 µs at 115,200 bit/s (R149). -/
def BitRate.charTime : BitRate → Time
  | .low => 5730
  | .high => 1910

/-- The configured channel count n: the record's in LISTENING and RUNNING, 4 in FALLBACK (R119, R135); none is known in
CONFIGURING. -/
def State.channelCount (s : State) : Nat :=
  match s.le.station with
  | .configuring => 0
  | .listening => s.cfg.channelCount
  | .running => s.cfg.channelCount
  | .fallback => 4

/-- The protection mode in force (R125, R135). -/
def State.protection (s : State) : ProtectionMode :=
  match s.le.station with
  | .fallback => .retry
  | .configuring => s.cfg.mode
  | .listening => s.cfg.mode
  | .running => s.cfg.mode

/-- A filter width in counts of the PWM period. -/
def FilterWidth.counts : FilterWidth → Nat
  | .zero => 0 | .half => 10 | .one => 20 | .two => 40

/-- The over-current filter width in force, in counts (R125, R135). -/
def State.filterCounts (s : State) : Nat :=
  match s.le.station with
  | .fallback => FilterWidth.one.counts
  | .configuring => s.cfg.filter.counts
  | .listening => s.cfg.filter.counts
  | .running => s.cfg.filter.counts

/-- The retry time in force, in seconds (R127, R135). -/
def State.retrySeconds (s : State) : Nat :=
  match s.le.station with
  | .fallback => 5
  | .configuring => s.cfg.retryTime
  | .listening => s.cfg.retryTime
  | .running => s.cfg.retryTime

/-! ### Channels by name -/

/-- The channel of a number. -/
def ChannelBlock.get (b : ChannelBlock) : ChannelId → Channel
  | .ch0 => b.c0 | .ch1 => b.c1 | .ch2 => b.c2 | .ch3 => b.c3

/-- The block with one channel replaced. -/
def ChannelBlock.set (b : ChannelBlock) (k : ChannelId) (c : Channel) : ChannelBlock :=
  match k with
  | .ch0 => { b with c0 := c } | .ch1 => { b with c1 := c } | .ch2 => { b with c2 := c } | .ch3 => { b with c3 := c }

/-- The block with every channel passed through `g`. -/
def ChannelBlock.map (b : ChannelBlock) (g : ChannelId → Channel → Channel) : ChannelBlock :=
  { b with c0 := g .ch0 b.c0, c1 := g .ch1 b.c1, c2 := g .ch2 b.c2, c3 := g .ch3 b.c3 }

/-- The state with one channel replaced. -/
def State.setChannel (s : State) (k : ChannelId) (c : Channel) : State := { s with ch := s.ch.set k c }

/-! ### Commands and compensation (R121 to R124, R131 to R133) -/

/-- A channel is healthy when it is DRIVING and free of the OPEN mark (07 section 7.3). -/
def Channel.healthy (c : Channel) : Bool := c.state == .driving && !c.openMark

/-- The healthy count h among the n configured channels. -/
def ChannelBlock.healthyCount (b : ChannelBlock) (n : Nat) : Nat :=
  (allChannels.filter fun k => decide (channelNumber k < n) && (b.get k).healthy).length

/-- The command of a DRIVING channel: C × n / h rounded up, at most 10000; C itself when no channel is healthy (R121). -/
def driveCommand (n h level : Nat) : Nat := if 1 ≤ h then min ((level * n + h - 1) / h) fullLevel else level

/-- The command of a channel (R121). -/
def Channel.commandFor (c : Channel) (n h level : Nat) : Nat :=
  match c.state with
  | .driving => driveCommand n h level
  | .retryWait => 0
  | .latched => 0
  | .off => 0

/-- The delivered counts (R122). -/
def deliveredCounts (n h level : Nat) : Nat :=
  if n = 0 ∨ h = 0 then 0 else min level (driveCommand n h level * h / n)

/-- The open timer of a channel after its command or its state has changed: it runs while detection is on, the channel is
DRIVING without the OPEN mark and its command is at least 1000; it starts from the full 2 s (R132). -/
def Channel.settledOpenTimer (c : Channel) (detecting : Bool) (now : Time) (command : Nat) : Option Time :=
  if detecting && c.healthy && decide (openLoadCommand ≤ command) then
    match c.openTimer with
    | some due => some due
    | none => some (now + openTime)
  else none

/-- The channel with its recomputed command and its open timer settled. -/
def Channel.recomputed (c : Channel) (detecting : Bool) (now : Time) (n h level : Nat) : Channel :=
  { c with command := c.commandFor n h level, openTimer := c.settledOpenTimer detecting now (c.commandFor n h level) }

/-- At least one channel is LATCHED (R131). -/
def ChannelBlock.anyLatched (b : ChannelBlock) : Bool := allChannels.any fun k => (b.get k).state == .latched

/-- At least one channel carries the OPEN mark (R133). -/
def ChannelBlock.anyOpen (b : ChannelBlock) : Bool := allChannels.any fun k => (b.get k).openMark

/-- The block after a computation of R123: commands, open timers and delivered counts from the held level and the present
health, and the delivery part of CAPACITY, OVERCURRENT_LATCHED and OPEN_LOAD examined again (R124, R131, R133). -/
def ChannelBlock.computed (b : ChannelBlock) (station : StationState) (n : Nat) (now : Time) : ChannelBlock :=
  let level := b.held.getD 0
  let h := b.healthyCount n
  { b.map (fun _ c => c.recomputed station.regulates now n h level) with
    delivered := deliveredCounts n h level,
    capacityPart := station.onLine && decide (1 ≤ n) && (h == 0 || decide (deliveredCounts n h level < level)),
    latchedCondition := b.anyLatched,
    openCondition := b.anyOpen }

/-- The conditions of the channel block, raised to the fault record while present (R124, R131, R133). -/
def FaultRecord.raiseChannels (fr : FaultRecord) (b : ChannelBlock) : FaultRecord :=
  ((fr.raiseIf b.capacityPart .capacity).raiseIf b.latchedCondition .overcurrentLatched).raiseIf b.openCondition .openLoad

/-- The channel block computes commands and delivered counts afresh (R123). -/
def State.computeCommands (s : State) : State :=
  let b := s.ch.computed s.le.station s.channelCount s.now
  { s with ch := b, fr := s.fr.raiseChannels b }

/-- The level engine hands the output level to the channel block, where it becomes the held level (R89, R123). -/
def State.handOver (s : State) (level : Nat) : State :=
  ({ s with ch := { s.ch with held := some level } } : State).computeCommands

/-! ### Transmit slots (R157, R158) -/

/-- The slot of a name. -/
def Slots.get (t : Slots) : SlotId → Slot
  | .override => t.override | .portal => t.portal | .level => t.level | .ident => t.ident

/-- The slots with one replaced. -/
def Slots.set (t : Slots) (k : SlotId) (x : Slot) : Slots :=
  match k with
  | .override => { t with override := x } | .portal => { t with portal := x }
  | .level => { t with level := x } | .ident => { t with ident := x }

/-- The order in which slots are chosen (R158). -/
def slotOrder : List SlotId := [.override, .portal, .level, .ident]

/-- Filling a slot: an empty one takes the content with an attempt count of 0, an occupied one keeps its count (R157). -/
def Slot.filled (x : Slot) (c : Content) : Slot :=
  { content := some c, attempts := if x.content.isSome then x.attempts else 0 }

/-- The first occupied slot, with its content (R158). -/
def Slots.firstOccupied (t : Slots) : Option (SlotId × Content) :=
  slotOrder.findSome? fun k => (t.get k).content.map fun c => (k, c)

/-- The access wait of a slot with attempt count `c`: (S mod 8) + 8 × c character times (R158). -/
def accessWait (p : LineParams) (c : Nat) : Time := (p.address.toNat % 8 + 8 * c) * p.rate.charTime

/-- An attempt starts, if a slot is occupied and no attempt is running: the first occupied slot is chosen, its content is
taken as it stands, and its access wait starts (R158). -/
def LineControl.startAttempt (lc : LineControl) (p : LineParams) (now : Time) : LineControl :=
  match lc.attempt, lc.slots.firstOccupied with
  | none, some (k, c) =>
    { lc with attempt := some { slot := k, content := c, refilled := false,
                                phase := .waiting (now + accessWait p (lc.slots.get k).attempts) } }
  | _, _ => lc

/-- The attempt under way learns that its slot has been filled again (R157, R158). -/
def Attempt.noteFilling (a : Attempt) (k : SlotId) : Attempt :=
  { a with refilled := a.refilled || decide (a.slot = k) }

/-- A slot is filled; where the line is idle and no attempt is running, an attempt starts at that moment (R157, R158). -/
def LineControl.fill (lc : LineControl) (k : SlotId) (c : Content) (p : LineParams) (now : Time) : LineControl :=
  let filled := { lc with slots := lc.slots.set k ((lc.slots.get k).filled c),
                          attempt := lc.attempt.map fun a => a.noteFilling k }
  if lc.idle then filled.startAttempt p now else filled

/-- An owner places a content in a transmit slot. -/
def State.fillSlot (s : State) (k : SlotId) (c : Content) : State := { s with lc := s.lc.fill k c s.line s.now }

/-! ### The capability chain (R155, R168) -/

/-- The channel states byte of the CHANNELS record: two bits per channel, CH0 lowest. -/
def ChannelBlock.statesByte (b : ChannelBlock) : Byte :=
  b.c0.state.code ||| (b.c1.state.code <<< 2) ||| (b.c2.state.code <<< 4) ||| (b.c3.state.code <<< 6)

/-- The OPEN marks byte of the CHANNELS record. -/
def ChannelBlock.openByte (b : ChannelBlock) : Byte :=
  markBit 0 b.c0.openMark ||| markBit 1 b.c1.openMark ||| markBit 2 b.c2.openMark ||| markBit 3 b.c3.openMark

/-- The BASE record. -/
def State.baseRecord (s : State) : List Byte :=
  chainRecord 1 [Config.revisionMajor, Config.revisionMinor, s.line.address, s.line.mask, s.le.station.code]

/-- The PHOTOMETER record, in LISTENING or RUNNING with a photometer side: its gain is the present gain. -/
def State.photometerRecord (s : State) : List Byte :=
  match s.le.station.regulates, s.cfg.side with
  | true, some side => chainRecord 2 ([side.code] ++ be16 s.cfg.fullScale ++ [BitVec.ofNat 8 s.pfe.gain.value])
  | _, _ => []

/-- The CHANNELS record, in FALLBACK or where n is 1 or more. -/
def State.channelsRecord (s : State) : List Byte :=
  if s.le.station = .fallback ∨ 1 ≤ s.channelCount then
    chainRecord 3 ([BitVec.ofNat 8 s.channelCount] ++ be16 s.yieldE ++ [s.ch.statesByte, s.ch.openByte, s.protection.code])
  else []

/-- The POSITION record, in LISTENING or RUNNING; d_B only where it is configured. -/
def State.positionRecord (s : State) : List Byte :=
  if s.le.station.regulates then
    chainRecord 4 (be16 s.cfg.distanceA ++ (s.cfg.distanceB.map be16).getD [])
  else []

/-- The COUNTERS record. -/
def State.countersRecord (s : State) : List Byte :=
  chainRecord 5 (be16 s.lc.lineResets ++ be16 s.lc.collisionDrops ++ be16 s.lc.crcErrors)

/-- The station's capability chain, from the state that the blocks hand over (R168). -/
def State.identChain (s : State) : List Byte :=
  s.baseRecord ++ s.photometerRecord ++ s.channelsRecord ++ s.positionRecord ++ s.countersRecord

/-- The IDENT slot is filled with the chain, addressed to `dest` (R155). -/
def State.fillIdent (s : State) (dest : Byte) : State :=
  s.fillSlot .ident { dest := dest, kind := .ident, tag := 0, payload := s.identChain }

/-! ### Resets (R174, R175 and the reset table of each chapter) -/

/-- Every block at its reset values with every timer stopped, the pins, the clock and the queue as they are. `lockDown` and
the counters are what the kind of reset leaves. -/
def State.blocksAtReset (s : State) (lockDown : Bool) (lineResets collisionDrops crcErrors : Nat) : State :=
  { s with
    cl := Loader.atReset, pfe := Photometer.atReset s.now, pt := PeerTable.atReset, pa := Aggregator.atReset,
    dc := Demand.atReset lockDown, le := LevelEngine.atReset s.now, ol := OverrideList.atReset, ch := ChannelBlock.atReset,
    lc := LineControl.atReset s.now lineResets collisionDrops crcErrors, fr := FaultRecord.atReset }

/-- Every block held at its power-on reset values: lock-down released, line counters 0 (R54, R148, R174). -/
def State.heldAtPowerOn (s : State) : State := s.blocksAtReset false 0 0 0

/-- The reset ends: the update and PWM period timers start, the debounce timer starts if the pin reads closed, and the record
read begins (R82, R112, R120, R170, R174). -/
def State.startFromReset (s : State) : State :=
  { s with
    cl := { s.cl with readDue := some (s.now + configReadTime) },
    le := { s.le with updateTimer := some (s.now + updatePeriod) },
    ol := { s.ol with debounceTimer := if s.fullinClosed then some (s.now + debounceTime) else none },
    ch := { s.ch with pwmTimer := some (s.now + pwmPeriod) } }

/-- A power-on reset (R174). -/
def State.powerOnReset (s : State) : State := s.heldAtPowerOn.startFromReset

/-- A line reset: the lock-down and the line counters are kept (R54, R148, R175). -/
def State.lineReset (s : State) : State :=
  (s.blocksAtReset s.dc.lockDown s.lc.lineResets s.lc.collisionDrops s.lc.crcErrors).startFromReset

end Sys2Proof.Machine
end

