-- ==== Sys2Proof/Machine/Channels.lean ====
section
/-! DEFINITION. The channel block: PWM_PERIOD_START, OVERCURRENT_TRIP, RETRY_TIMER_EXPIRY, TRIP_TIME_EXPIRY, OPEN_TIMER_EXPIRY,
LOAD_CURRENT_PULSE (R119 to R138), and the channel set of a CLEAR (R134). -/

namespace Sys2Proof.Machine

/-! ### The pulse (R120) -/

/-- The start of the present PWM period. -/
def ChannelBlock.periodBegan (b : ChannelBlock) : Time := b.pwmTimer.getD pwmPeriod - pwmPeriod

/-- The pulse of the channel is there when `elapsed` of its period has passed: from the start of the period for as many counts as
the applied command, for the whole period at 10000, and no longer once a trip has cut it (R120, R126). -/
def Channel.pulseAt (c : Channel) (elapsed : Time) : Bool :=
  decide (1 ≤ c.applied) && !c.cut && (decide (c.applied = fullLevel) || decide (elapsed < c.applied))

/-- The gate drive of a channel is high at an instant of the present period (R120). -/
def State.gateDriveAt (s : State) (k : ChannelId) (t : Time) : Bool :=
  s.powered && (s.ch.get k).pulseAt (t - s.ch.periodBegan)

/-- The gate drive of a channel is high (R120). -/
def State.gateDrive (s : State) (k : ChannelId) : Bool := s.gateDriveAt k s.now

/-- The channel is DRIVING and within its pulse: its current-sense comparators are looked at (R125, R132, R133). -/
def State.inPulse (s : State) (k : ChannelId) : Bool := (s.ch.get k).state == .driving && s.gateDrive k

/-- A period starts: the command becomes the applied command, a count of tripped periods returns to 0 where the period just
ended had no trip, and a new pulse begins; only an uncut pulse of 10000 runs on without a break (R120, R126). -/
def Channel.periodStart (c : Channel) (now : Time) : Channel :=
  { c with applied := c.command, tripped := if c.cut then c.tripped else 0, cut := false,
           pulseStart := if c.applied = fullLevel ∧ c.cut = false then c.pulseStart else now }

/-- PWM_PERIOD_START (R120). -/
def execPwmPeriodStart (s : State) : Result :=
  match s.ch.pwmTimer with
  | some due =>
    let at' := s.elapseTo due
    .next { at' with ch := { at'.ch.map (fun _ c => c.periodStart at'.now) with pwmTimer := some (at'.now + pwmPeriod) } }
  | none => .next s

/-! ### Trips (R125 to R130) -/

/-- A channel that leaves DRIVING on a trip: command 0, gate drive low, OPEN mark and open timer gone, count 0 (R127, R130). -/
def Channel.tripOut (c : Channel) (state : ChannelState) : Channel :=
  { c with state := state, command := 0, openMark := false, openTimer := none, tripped := 0, cut := true }

/-- A trip handled in RETRY mode: recorded, with RETRY_WAIT and the retry timer, or LATCHED where the history holds 3 times
(R127). -/
def Channel.retryTrip (c : Channel) (now retryTime : Time) : Channel :=
  if c.history.length < historySize then
    { c.tripOut .retryWait with history := c.history ++ [now], retryTimer := some (now + retryTime) }
  else c.tripOut .latched

/-- A trip in PERIOD mode that does not escalate: the pulse ends and the count increases (R126). -/
def Channel.periodTrip (c : Channel) : Channel := { c with tripped := c.tripped + 1, cut := true }

/-- A trip of a channel, by the protection mode in force (R125). A change of health recomputes the commands (R123). -/
def State.trip (s : State) (k : ChannelId) : State :=
  let c := s.ch.get k
  let retried := (s.setChannel k (c.retryTrip s.now (sec s.retrySeconds))).computeCommands
  match s.protection with
  | .period => if c.tripped + 1 < trippedLimit then s.setChannel k c.periodTrip else retried
  | .retry => retried
  | .latch => (s.setChannel k (c.tripOut .latched)).computeCommands

/-- A trip can be taken now: the channel is DRIVING, the filter width has passed since its pulse began, and the gate drive has been
high to the end of that width. With a filter width of 0 the excursion begins now, so the gate drive is high now (R125). -/
def State.tripPossible (s : State) (k : ChannelId) : Bool :=
  (s.ch.get k).state == .driving && decide ((s.ch.get k).pulseStart + s.filterCounts ≤ s.now) &&
    s.gateDriveAt k (s.now - min s.filterCounts 1)

/-- OVERCURRENT_TRIP (R125): an excursion has lasted the filter width during a pulse. The trip is taken at the moment the filter
width has passed, so the clock comes to the first moment at which that can be (log 15); with the gate drive low the comparator is
ignored, and a pulse shorter than the filter width never trips. -/
def execOvercurrentTrip (k : ChannelId) (s : State) : Result :=
  let at' := s.elapseTo ((s.ch.get k).pulseStart + s.filterCounts)
  if at'.tripPossible k then .next (at'.trip k) else .next s

/-- A channel returned to DRIVING: OPEN mark clear, count 0, retry timer gone, and the open timer about
to start afresh (R128, R132, R134). -/
def Channel.returned (c : Channel) : Channel :=
  { c with state := .driving, openMark := false, openTimer := none, tripped := 0, retryTimer := none }

/-- RETRY_TIMER_EXPIRY (R128): the channel returns to DRIVING with its history kept. -/
def execRetryTimerExpiry (k : ChannelId) (s : State) : Result :=
  match (s.ch.get k).retryTimer with
  | some due =>
    if (s.ch.get k).state = .retryWait then
      .next ((s.elapseTo due).setChannel k (s.ch.get k).returned).computeCommands
    else .next s
  | none => .next s

/-- TRIP_TIME_EXPIRY (R129): the oldest trip time leaves the history 60 s after it was recorded. -/
def execTripTimeExpiry (k : ChannelId) (s : State) : Result :=
  match (s.ch.get k).history with
  | t :: rest => .next ((s.elapseTo (t + tripMemory)).setChannel k { s.ch.get k with history := rest })
  | [] => .next s

/-- OPEN_TIMER_EXPIRY (R132): the channel takes the OPEN mark, the commands are recomputed and OPEN_LOAD is raised. -/
def execOpenTimerExpiry (k : ChannelId) (s : State) : Result :=
  match (s.ch.get k).openTimer with
  | some due =>
    .next ((s.elapseTo due).setChannel k { s.ch.get k with openMark := true, openTimer := none }).computeCommands
  | none => .next s

/-- A pulse above the open-load reference: it ends an OPEN mark, with a recomputation (R133), and otherwise restarts a running
open timer with the full 2 s (R132). -/
def State.loadCurrent (s : State) (k : ChannelId) : State :=
  let c := s.ch.get k
  if c.openMark then (s.setChannel k { c with openMark := false, openTimer := none }).computeCommands
  else if c.openTimer.isSome then s.setChannel k { c with openTimer := some (s.now + openTime) }
  else s

/-- LOAD_CURRENT_PULSE (R132, R133): taken within the channel's pulse, while its gate drive is high. -/
def execLoadCurrentPulse (k : ChannelId) (s : State) : Result :=
  if s.inPulse k then .next (s.loadCurrent k) else .next s

/-! ### CLEAR (R134) -/

/-- A channel that a CLEAR acts on: RETRY_WAIT or LATCHED. -/
def Channel.clearable (c : Channel) : Bool := c.state == .retryWait || c.state == .latched

/-- A channel named by a CLEAR: returned with an empty history where it is in RETRY_WAIT or LATCHED, else untouched (R134). -/
def Channel.cleared (c : Channel) (named : Bool) : Channel :=
  if named && c.clearable then { c.returned with history := [] } else c

/-- The channel set of a CLEAR is acted on; where any channel returned, the commands are recomputed once (R134). -/
def State.clearChannels (s : State) (f : ClearFields) : State :=
  let acted : State := { s with ch := s.ch.map fun k c => c.cleared (f.namesChannel k) }
  if allChannels.any fun k => f.namesChannel k && (s.ch.get k).clearable then acted.computeCommands else acted

/-- A CLEAR frame is handed over: the channel set first (R134), then the flag set against the conditions as they then stand
(R141). -/
def State.takeClear (s : State) (r : RawFrame) : State :=
  let f := readClear r.payload
  let acted := s.clearChannels f
  { acted with fr := acted.fr.clearFlags f.flags acted.conditions }

end Sys2Proof.Machine
end

