-- ==== Sys2Proof/Machine/Peers.lean ====
section
/-! DEFINITION. The peer table: taking LEVEL, PORTAL and IDENT frames, ageing (PART_STALE, PART_LOST, ENTRY_LOST), room in the
table, and NEIGHBOUR_LOST (R21 to R40). -/

namespace Sys2Proof.Machine

/-! ### Ages and freshness (R32, R33) -/

/-- The age of something taken at `t`, at most 65,535 ms (R32). -/
def State.age (s : State) (t : Time) : Time := ageAt s.now t ageLimit

/-- An age has reached a limit: it lies beyond it, or stands at it with the event of reaching it already taken. Before that event
is taken, another event of the same instant finds the limit not yet reached (R32, R50, R70, log 29). -/
def reached (age limit : Time) (taken : Bool) : Bool := decide (limit < age) || decide (age = limit) && taken

/-- The freshness of an age against the stale time and the lost time of the record, in ms (R32). -/
def freshnessOf (staleTime lostTime : Nat) (age : Time) (aged : Freshness) : Freshness :=
  if !reached age (ms staleTime) (aged != .fresh) then .fresh
  else if !reached age (ms lostTime) (aged == .lost) then .stale
  else .lost

/-- The freshness of a part taken at `t` whose freshness events have been taken as far as `aged`. -/
def State.freshness (s : State) (t : Time) (aged : Freshness) : Freshness :=
  freshnessOf s.cfg.staleTime s.cfg.lostTime (s.age t) aged

/-- The freshness of a portal part (R32). -/
def State.portalFreshness (s : State) (p : PortalPart) : Freshness := s.freshness p.takenAt p.aged

/-- The freshness of a level part (R32). -/
def State.levelFreshness (s : State) (l : LevelPart) : Freshness := s.freshness l.takenAt l.aged

/-- An entry is LOST when every part it holds is LOST; without parts, when its entry age has reached the lost time (R33). -/
def State.entryLost (s : State) (e : Entry) : Bool :=
  match e.portal, e.level with
  | none, none => reached (s.age e.heardAt) (ms s.cfg.lostTime) e.agedOut
  | some p, none => s.portalFreshness p == .lost
  | none, some l => s.levelFreshness l == .lost
  | some p, some l => s.portalFreshness p == .lost && s.levelFreshness l == .lost

/-! ### The table as a list in address order (R21) -/

/-- The entry of an address. -/
def findEntry (es : List Entry) (a : Byte) : Option Entry := es.find? fun e => e.addr == a

/-- An entry takes its place in the address order (R21). -/
def insertEntry (e : Entry) : List Entry → List Entry
  | [] => [e]
  | x :: rest => if e.addr < x.addr then e :: x :: rest else x :: insertEntry e rest

/-- The entry of an address is removed (R21). -/
def removeEntry (es : List Entry) (a : Byte) : List Entry := es.filter fun e => e.addr != a

/-- The entry of an address is changed. -/
def updateEntry (es : List Entry) (a : Byte) (g : Entry → Entry) : List Entry :=
  es.map fun e => if e.addr == a then g e else e

/-- A new entry has no parts, no role, and an entry age of 0 (R22). -/
def newEntry (a : Byte) (reserved : Bool) (now : Time) : Entry :=
  { addr := a, reserved := reserved, side := none, luminaire := false, heardAt := now, agedOut := false, portal := none,
    level := none }

/-- The reserved entries of the record's neighbours (R26). -/
def reservedEntries (neighbours : List Byte) (now : Time) : List Entry :=
  neighbours.foldl (fun es a => insertEntry (newEntry a true now) es) []

/-! ### Room in the table (R34 to R36) -/

/-- Of two LOST entries, the first gives way before the second: greater entry age, then no photometer side, then luminaire
mark clear, then lower address (R35). -/
def State.givesWayBefore (s : State) (x y : Entry) : Bool :=
  if s.age x.heardAt ≠ s.age y.heardAt then decide (s.age y.heardAt < s.age x.heardAt)
  else if x.side.isNone ≠ y.side.isNone then x.side.isNone
  else if x.luminaire ≠ y.luminaire then !x.luminaire
  else decide (x.addr < y.addr)

/-- The victim among candidates: the one that gives way before every other (R35). -/
def State.chooseVictim (s : State) : List Entry → Option Entry
  | [] => none
  | e :: rest =>
    match s.chooseVictim rest with
    | none => some e
    | some v => if s.givesWayBefore v e then some v else some e

/-- The victim of a full table: among the entries that are not reserved and LOST (R35). -/
def State.victim (s : State) : Option Entry :=
  s.chooseVictim (s.pt.entries.filter fun e => !e.reserved && s.entryLost e)

/-- The table with an entry for `a`, which it does not hold: inserted where there is room (R34), in the victim's place in a
full table (R35), or none where the creation is refused (R36). -/
def State.withRoomFor (s : State) (a : Byte) : Option (List Entry) :=
  if s.pt.entries.length < tableSize then some (insertEntry (newEntry a false s.now) s.pt.entries)
  else (s.victim).map fun v => insertEntry (newEntry a false s.now) (removeEntry s.pt.entries v.addr)

/-! ### NEIGHBOUR_LOST (R38) -/

/-- A reserved entry whose level part is missing or not FRESH. -/
def State.neighbourSilent (s : State) (e : Entry) : Bool :=
  e.reserved && (match e.level with
    | none => true
    | some l => s.levelFreshness l != .fresh)

/-- The NEIGHBOUR_LOST condition is examined again, and raised while present (R38). Freshness follows the age, the condition these
examinations: a level part beyond the stale time whose PART_STALE comes late or never is not FRESH, yet the condition stays as it was
until the next command that examines it (log 29, DESIGN CHOICE). -/
def State.examineNeighbours (s : State) : State :=
  let lost := decide (s.le.station = .running) && s.pt.entries.any s.neighbourSilent
  { s with pt := { s.pt with neighbourLost := lost }, fr := s.fr.raiseIf lost .neighbourLost }

/-! ### Taking reports (R27 to R31) -/

/-- A report is a duplicate of the part held: equal tags, and no RESTART mark on the frame or one on the part too (R30). -/
def isDuplicate (partTag : Byte) (partRestart : Bool) (tag : Byte) (restart : Bool) : Bool :=
  tag == partTag && (!restart || partRestart)

/-- The entry with a LEVEL report taken into it: level part, entry age and role (R24, R27, R31). -/
def Entry.withLevel (e : Entry) (r : LevelReport) (tag : Byte) (now : Time) : Entry :=
  { e with
    level := some { delivered := min r.delivered 2000, restart := r.restart, tag := tag, takenAt := now, aged := .fresh },
    heardAt := now, agedOut := false, luminaire := decide (1 ≤ r.configured) }

/-- The entry with a PORTAL report of side `side` taken into it (R23, R28, R31). -/
def Entry.withPortal (e : Entry) (side : Side) (r : PortalReport) (tag : Byte) (now : Time) : Entry :=
  { e with
    portal := some { side := side, luminance := min r.luminance 16000, sensorFault := r.sensorFault, restart := r.restart,
                     tag := tag, takenAt := now, aged := .fresh },
    heardAt := now, agedOut := false, side := some side }

/-- The entry with an IDENT taken: entry age and role (R29, R31). -/
def Entry.withIdent (e : Entry) (role : Option Side × Bool) (now : Time) : Entry :=
  { e with heardAt := now, agedOut := false, side := role.1, luminaire := role.2 }

/-- A frame from `src` is applied to its entry, found or created; where the creation is refused the table is unchanged and
TABLE_FULL is raised (R27, R34 to R36). -/
def State.applyToEntry (s : State) (src : Byte) (g : Entry → Entry) : State :=
  match findEntry s.pt.entries src with
  | some _ => { s with pt := { s.pt with entries := updateEntry s.pt.entries src g } }
  | none =>
    match s.withRoomFor src with
    | some es => { s with pt := { s.pt with entries := updateEntry es src g } }
    | none => s.raiseIf true .tableFull

/-- The frame repeats the level part held for its source (R30). -/
def State.levelDuplicate (s : State) (r : RawFrame) : Bool :=
  match (findEntry s.pt.entries r.src).bind Entry.level with
  | some p => isDuplicate p.tag p.restart r.tag (readLevel r.payload).restart
  | none => false

/-- The frame repeats the portal part held for its source (R30). -/
def State.portalDuplicate (s : State) (r : RawFrame) : Bool :=
  match (findEntry s.pt.entries r.src).bind Entry.portal with
  | some p => isDuplicate p.tag p.restart r.tag (readPortal r.payload).restart
  | none => false

/-- The source has a reserved entry. -/
def State.isReserved (s : State) (src : Byte) : Bool := ((findEntry s.pt.entries src).map Entry.reserved).getD false

/-- A LEVEL frame is handed to the peer table (R25, R27). A frame taken for a reserved entry examines NEIGHBOUR_LOST (R38). -/
def State.takeLevel (s : State) (r : RawFrame) : State :=
  if s.le.station.regulates then
    if r.src = 255 then s
    else if s.levelDuplicate r then s
    else
      let taken := s.applyToEntry r.src fun e => e.withLevel (readLevel r.payload) r.tag s.now
      if s.isReserved r.src then taken.examineNeighbours else taken
  else s

/-- A PORTAL frame is handed to the peer table (R25, R28). -/
def State.takePortal (s : State) (r : RawFrame) : State :=
  if s.le.station.regulates then
    match (readPortal r.payload).side with
    | none => s
    | some side =>
      if r.src = 255 then s
      else if s.portalDuplicate r then s
      else s.applyToEntry r.src fun e => e.withPortal side (readPortal r.payload) r.tag s.now
  else s

/-- An IDENT frame is handed to the peer table (R25, R29). -/
def State.takeIdent (s : State) (r : RawFrame) : State :=
  if s.le.station.regulates then
    if r.src = 255 then s
    else s.applyToEntry r.src fun e => e.withIdent (readRole r.payload) s.now
  else s

/-! ### Ageing (R32, R33) -/

/-- The instant a part of an entry was taken, where the table holds the entry and the part. -/
def State.partTakenAt (s : State) (addr : Byte) (part : PartKind) : Option Time :=
  match part with
  | .levelPart => ((findEntry s.pt.entries addr).bind Entry.level).map LevelPart.takenAt
  | .portalPart => ((findEntry s.pt.entries addr).bind Entry.portal).map PortalPart.takenAt

/-- The later of two freshness states. -/
def Freshness.later : Freshness → Freshness → Freshness
  | .fresh, y => y
  | .stale, .fresh => .stale
  | .stale, y => y
  | .lost, _ => .lost

/-- The entry with a freshness event of one of its parts taken (R32). -/
def Entry.agePart (e : Entry) (part : PartKind) (f : Freshness) : Entry :=
  match part with
  | .portalPart => { e with portal := e.portal.map fun p => { p with aged := p.aged.later f } }
  | .levelPart => { e with level := e.level.map fun l => { l with aged := l.aged.later f } }

/-- A change of the entry of an address. -/
def State.changeEntry (s : State) (addr : Byte) (g : Entry → Entry) : State :=
  { s with pt := { s.pt with entries := updateEntry s.pt.entries addr g } }

/-- PART_STALE (R32): the part's age reaches the stale time and the part becomes STALE; for a reserved entry's level part
NEIGHBOUR_LOST is examined again (R38). Ageing runs in LISTENING and RUNNING only (R25). -/
def execPartStale (addr : Byte) (part : PartKind) (s : State) : Result :=
  match s.partTakenAt addr part with
  | some t =>
    if s.le.station.regulates then
      let aged := (s.elapseTo (t + ms s.cfg.staleTime)).changeEntry addr (·.agePart part .stale)
      .next (if part = .levelPart ∧ s.isReserved addr = true then aged.examineNeighbours else aged)
    else .next s
  | none => .next s

/-- PART_LOST (R32): the part's age reaches the lost time and the part becomes LOST. -/
def execPartLost (addr : Byte) (part : PartKind) (s : State) : Result :=
  match s.partTakenAt addr part with
  | some t =>
    .next (if s.le.station.regulates then
        (s.elapseTo (t + ms s.cfg.lostTime)).changeEntry addr (·.agePart part .lost)
      else s)
  | none => .next s

/-- ENTRY_LOST (R33): the entry age of an entry without parts reaches the lost time and the entry becomes LOST. -/
def execEntryLost (addr : Byte) (s : State) : Result :=
  match findEntry s.pt.entries addr with
  | some e =>
    .next (if s.le.station.regulates && e.portal.isNone && e.level.isNone then
        (s.elapseTo (e.heardAt + ms s.cfg.lostTime)).changeEntry addr fun x => { x with agedOut := true }
      else s)
  | none => .next s

end Sys2Proof.Machine
end

