-- ==== Sys2Proof/Machine/Photometer.lean ====
section
/-! DEFINITION. The photometer front end: SAMPLE_INSTANT, PHIN_LEAVES_BAND, PHIN_RETURNS_TO_BAND, RECOVERY_TIMER_EXPIRY and
PORTAL_REPORT_TIMER_EXPIRY (R1 to R20). -/

namespace Sys2Proof.Machine

/-! ### Conversion and reading -/

/-- The luminance of a count at a gain, rounded to nearest, clamped to 16000 (R3). -/
def convert (count fullScale : Nat) (g : Gain) : Nat :=
  min ((count * fullScale + g.value * 2048) / (g.value * 4096)) 16000

/-- The middle of three values (R8, R45). -/
def median3 (x y z : Nat) : Nat := max (min x y) (min (max x y) z)

/-- The own reading formed from the window: median of three, mean of two rounded down, or the single sample (R8). -/
def formReading : List Sample → Option Nat
  | [x] => some x.luminance
  | [x, y] => some ((x.luminance + y.luminance) / 2)
  | [x, y, z] => some (median3 x.luminance y.luminance z.luminance)
  | _ => none

/-- A kept sample joins the window as its newest; of three samples the oldest leaves (R7). -/
def joinWindow (w : List Sample) (x : Sample) : List Sample := (w ++ [x]).drop ((w ++ [x]).length - 3)

/-- What the front end does with a count (R4): the first row of the table that matches. -/
inductive SampleCase where
  | discarded | saturated | stepUp | plain
  deriving DecidableEq, Repr

/-- The row of the table of R4. -/
def sampleCase (count : Nat) (g : Gain) : SampleCase :=
  if 3968 ≤ count then (if g = .g1 then .saturated else .discarded)
  else if count < 1024 ∧ g ≠ .g16 then .stepUp
  else .plain

/-- A discarded sample halves the gain and empties the window; the reading is held (R5). -/
def Photometer.discard (p : Photometer) : Photometer := { p with gain := p.gain.halve, window := [] }

/-- A kept sample joins the window and the own reading is formed from it, with the newest sample's gain and the SATURATED
mark of the window (R6, R7, R8). -/
def Photometer.keep (p : Photometer) (x : Sample) : Photometer :=
  let w := joinWindow p.window x
  { p with window := w, reading := formReading w, readingGain := x.gain, saturated := w.any (·.saturated) }

/-- After the reading is formed a low count doubles the gain and empties the window; the reading is held (R4, R8). -/
def Photometer.stepUp (p : Photometer) : Photometer := { p with gain := p.gain.double, window := [] }

/-! ### PORTAL reports -/

/-- The difference of two quantities as a positive number. -/
def difference (x y : Nat) : Nat := (x - y) + (y - x)

/-- A reading has moved far enough from the last reported one (R15, R96). -/
def movedEnough (l lr : Nat) : Bool := decide (1 ≤ difference l lr) && decide (lr ≤ 8 * difference l lr)

/-- At least P/4 has passed since `placedAt` (R15, R96). -/
def quarterPassed (elapsed : Time) (period : Nat) : Bool := decide (ms period ≤ 4 * elapsed)

/-- The named fields of a PORTAL content, taken at the moment of placement (R16). -/
def State.portalFields (s : State) : PortalFields :=
  { side := s.cfg.side.getD .a,
    luminance := if s.pfe.sensorFault then 0 else s.pfe.reading.getD 0,
    gain := if s.pfe.sensorFault then s.pfe.gain else s.pfe.readingGain,
    saturated := !s.pfe.sensorFault && s.pfe.saturated,
    sensorFault := s.pfe.sensorFault,
    restart := s.pfe.restartPending }

/-- A PORTAL content is placed, addressed to broadcast, with the next tag; Lr takes its luminance and the report timer
restarts with P (R14 to R17). -/
def State.placePortal (s : State) : State :=
  let f := s.portalFields
  let placed : State :=
    { s with pfe := { s.pfe with tag := s.pfe.tag + 1, lastReported := f.luminance, placedAt := s.now,
                                 reportTimer := some (s.now + ms s.reportPeriod) } }
  placed.fillSlot .portal { dest := 255, kind := .portal, tag := s.pfe.tag, payload := writePortal f }

/-- The early check with reading `l` (R15). -/
def State.earlyPortal (s : State) (l : Nat) : State :=
  if movedEnough l s.pfe.lastReported && quarterPassed (s.now - s.pfe.placedAt) s.reportPeriod then s.placePortal else s

/-! ### The steps -/

/-- A kept sample: it joins the window, the reading is formed, and the early check is made (R4, R8, R15). -/
def State.keepSample (s : State) (count : Nat) (saturated : Bool) : State :=
  let x : Sample :=
    { luminance := convert count s.cfg.fullScale s.pfe.gain, saturated := saturated, gain := s.pfe.gain }
  let kept : State := { s with pfe := s.pfe.keep x }
  kept.earlyPortal (kept.pfe.reading.getD 0)

/-- A conversion is dealt with by R4. -/
def State.takeConversion (s : State) (count : Nat) : State :=
  match sampleCase count s.pfe.gain with
  | .discarded => { s with pfe := s.pfe.discard }
  | .saturated => s.keepSample count true
  | .plain => s.keepSample count false
  | .stepUp =>
    let kept := s.keepSample count false
    { kept with pfe := kept.pfe.stepUp }

/-- SENSOR_FAULT begins: the window empties, the reading becomes invalid with its mark clear, the condition is raised, and
the early check is made with a reading of 0 (R10). The reading gain keeps its value (log 13). -/
def State.beginSensorFault (s : State) : State :=
  let faulted : State :=
    { s with pfe := { s.pfe with window := [], reading := none, saturated := false, sensorFault := true } }
  (faulted.raiseIf true .sensorFault).earlyPortal 0

/-- The front end starts, on entry to LISTENING: sample and report timers start, and the entry counts as a placement for the
P/4 condition (R2, R14, R15). PHIN outside the band begins SENSOR_FAULT at once (R146, log 14). -/
def State.startPhotometer (s : State) : State :=
  if s.pfeOn then
    let started : State :=
      { s with pfe := { s.pfe with sampleTimer := some (s.now + ms s.cfg.samplePeriod),
                                   reportTimer := some (s.now + ms s.reportPeriod), placedAt := s.now } }
    if s.phinInBand then started else started.beginSensorFault
  else s

/-- The sample instant at the expiry of the sample timer (R2). -/
def State.sampleInstant (s : State) (count : Nat) : State :=
  let restarted : State := { s with pfe := { s.pfe with sampleTimer := some (s.now + ms s.cfg.samplePeriod) } }
  if s.pfe.sensorFault then restarted else restarted.takeConversion count

/-- SAMPLE_INSTANT (R2). -/
def execSampleInstant (count : BitVec 12) (s : State) : Result :=
  match s.pfe.sampleTimer with
  | some due => .next ((s.elapseTo due).sampleInstant count.toNat)
  | none => .next s

/-- PHIN_LEAVES_BAND (R10): SENSOR_FAULT begins where it is absent; where it is present, a running recovery timer stops. While
the front end is off the band is not monitored (R1) and only the pin changes. -/
def execPhinLeavesBand (s : State) : Result :=
  let out : State := { s with phinInBand := false }
  if s.pfeOn then
    if s.pfe.sensorFault then .next { out with pfe := { out.pfe with recoveryTimer := none } }
    else .next out.beginSensorFault
  else .next out

/-- PHIN_RETURNS_TO_BAND (R10): while SENSOR_FAULT is present the recovery timer starts with 1 s. Where PHIN is inside the band
already there is no return, and the command changes nothing (log 27, DEDUCED). -/
def execPhinReturnsToBand (s : State) : Result :=
  let back : State := { s with phinInBand := true }
  if s.phinInBand then .next s
  else if s.pfeOn && s.pfe.sensorFault then
    .next { back with pfe := { back.pfe with recoveryTimer := some (s.now + recoveryTime) } }
  else .next back

/-- RECOVERY_TIMER_EXPIRY (R11): SENSOR_FAULT ends; the window is empty and the reading invalid at this point. -/
def execRecoveryTimerExpiry (s : State) : Result :=
  match s.pfe.recoveryTimer with
  | some due =>
    let at' := s.elapseTo due
    .next { at' with pfe := { at'.pfe with sensorFault := false, recoveryTimer := none } }
  | none => .next s

/-- The report timer has expired: a content is placed where the reading is valid or SENSOR_FAULT is present, and the timer
restarts with P in any case (R14). -/
def State.portalReport (s : State) : State :=
  if s.pfe.reading.isSome || s.pfe.sensorFault then s.placePortal
  else { s with pfe := { s.pfe with reportTimer := some (s.now + ms s.reportPeriod) } }

/-- PORTAL_REPORT_TIMER_EXPIRY (R14). -/
def execPortalReportTimerExpiry (s : State) : Result :=
  match s.pfe.reportTimer with
  | some due => .next (s.elapseTo due).portalReport
  | none => .next s

end Sys2Proof.Machine
end

