-- ==== Sys2Proof/Machine/Demand.lean ====
section
/-! DEFINITION. The portal aggregator (R41 to R52) and the demand calculator (R53 to R81): sides, thresholds, station ratios, the
neighbour floor, the target and its governing term, the required level, and the trim. -/

namespace Sys2Proof.Machine

/-! ### Candidates and aggregate (R43 to R45) -/

/-- Side X is served: side A always, side B where the record gives d_B (R41). -/
def State.serves (s : State) : Side → Bool
  | .a => true
  | .b => s.cfg.distanceB.isSome

/-- A portal part is a candidate of side X: it is of that side, FRESH, and free of the SENSOR_FAULT mark (R43). -/
def State.isCandidate (s : State) (x : Side) (p : PortalPart) : Bool :=
  p.side == x && s.portalFreshness p == .fresh && !p.sensorFault

/-- The candidates among the peers, in address order (R37, R43). -/
def State.peerCandidates (s : State) (x : Side) : List (Byte × Nat) :=
  s.pt.entries.filterMap fun e =>
    match e.portal with
    | some p => if s.isCandidate x p then some (e.addr, p.luminance) else none
    | none => none

/-- The own reading set among the peers by address (R44). -/
def insertReading (r : Byte × Nat) : List (Byte × Nat) → List (Byte × Nat)
  | [] => [r]
  | y :: rest => if r.1 < y.1 then r :: y :: rest else y :: insertReading r rest

/-- All candidates of side X, in address order: the peers' parts, and the own reading at the station's own address (R43). -/
def State.candidates (s : State) (x : Side) : List (Byte × Nat) :=
  match s.pfe.reading with
  | some l => if s.cfg.side = some x then insertReading (s.line.address, l) (s.peerCandidates x) else s.peerCandidates x
  | none => s.peerCandidates x

/-- The aggregate of the candidates kept: median of three, larger of two, the value of one (R45). -/
def aggregateOf : List Nat → Option Nat
  | [x] => some x
  | [x, y] => some (max x y)
  | [x, y, z] => some (median3 x y z)
  | _ => none

/-- The aggregate of side X: of more than three candidates the three lowest addresses are kept (R44, R45). -/
def State.aggregate (s : State) (x : Side) : Option Nat := aggregateOf (((s.candidates x).take 3).map Prod.snd)

/-! ### Side records (R45 to R49) -/

/-- The side record after a level update: LIVE on an aggregate, HOLDING within the hold time, else DEFAULT; the PORTAL_X_LOST
condition is examined against the new status (R45 to R48). -/
def SideRecord.formed (r : SideRecord) (aggregate : Option Nat) (now : Time) (holdTime defaultLuminance : Nat)
    (running : Bool) : SideRecord :=
  match aggregate with
  | some l =>
    { status := some .live, lastAggregate := some l, everValid := true, validAt := now, luminance := some l, lost := false }
  | none =>
    if r.everValid && decide (now - r.validAt < sec holdTime) then
      { r with status := some .holding, luminance := r.lastAggregate, lost := false }
    else { r with status := some .onDefault, luminance := some defaultLuminance, lost := running }

/-- The side record of side X formed at this update, where the side is served (R41, R42). -/
def State.formedSide (s : State) (x : Side) (r : SideRecord) : SideRecord :=
  if s.serves x then
    r.formed (s.aggregate x) s.now s.cfg.holdTime s.cfg.defaultLuminance (decide (s.le.station = .running))
  else r

/-- Both sides are formed from one read, and the conditions raised while present (R48, R50). -/
def State.formSides (s : State) : State :=
  let pa : Aggregator := { a := s.formedSide .a s.pa.a, b := s.formedSide .b s.pa.b }
  { s with pa := pa, fr := (s.fr.raiseIf pa.a.lost .portalALost).raiseIf pa.b.lost .portalBLost }

/-- A side is lost while RUNNING: served, and in DEFAULT since the last update (R48). -/
def State.sideLost (s : State) (x : Side) (r : SideRecord) : Bool :=
  s.serves x && decide (s.le.station = .running) && decide (r.status = some .onDefault)

/-- The PORTAL_X_LOST conditions examined against the status formed at the last update, on entry to RUNNING (R42, R48). -/
def State.examineSides (s : State) : State :=
  let pa : Aggregator := { a := { s.pa.a with lost := s.sideLost .a s.pa.a }, b := { s.pa.b with lost := s.sideLost .b s.pa.b } }
  { s with pa := pa, fr := (s.fr.raiseIf pa.a.lost .portalALost).raiseIf pa.b.lost .portalBLost }

/-! ### Ratios, thresholds, demands (R53, R61, R62, R64) -/

/-- The threshold luminance, rounded to nearest (R53). -/
def threshold (luminance k trim : Nat) : Nat := (luminance * k * trim + 500000) / 1000000

/-- The station ratio read off the profile at a distance, rounded up (R61, R62). -/
def stationRatio : List Breakpoint → Nat → Nat
  | [], _ => 0
  | [b], _ => b.ratio
  | b :: c :: rest, d =>
    if d ≤ b.distance then b.ratio
    else if d < c.distance then b.ratio - ((b.ratio - c.ratio) * (d - b.distance)) / (c.distance - b.distance)
    else stationRatio (c :: rest) d

/-- The portal demand, rounded up (R64). -/
def portalDemand (thresholdLuminance ratio : Nat) : Nat := (thresholdLuminance * ratio + 999) / 1000

/-- The demand of side X from its luminance and its ratio. -/
def State.sideDemand (s : State) (trim : Nat) (r : SideRecord) (ratio : Option Nat) : Nat :=
  portalDemand (threshold (r.luminance.getD 0) s.cfg.thresholdRatio trim) (ratio.getD 0)

/-! ### The neighbour floor (R67, R68) -/

/-- The floor a neighbour's delivered luminance gives (R67). -/
def neighbourFloorOf (delivered stepRatio : Nat) : Nat := (delivered * 10 + stepRatio - 1) / stepRatio

/-- The floor an entry gives: a reserved entry with a FRESH level part gives one (R67, R68). -/
def State.entryFloor (s : State) (e : Entry) : Nat :=
  match e.reserved, e.level with
  | true, some l => if s.levelFreshness l = .fresh then neighbourFloorOf l.delivered s.cfg.stepRatio else 0
  | _, _ => 0

/-- The neighbour floor F: the largest, or 0 (R68). -/
def State.neighbourFloor (s : State) : Nat := (s.pt.entries.map s.entryFloor).foldl max 0

/-! ### Target, governing term, required level (R71 to R77) -/

/-- The larger of two floor levels, where there is one. -/
def largerFloor : Option Nat → Option Nat → Option Nat
  | some x, some y => some (max x y)
  | some x, none => some x
  | none, y => y

/-- The highest FLOOR level among the entries in force (R71, R111). -/
def OverrideList.highestFloor (ol : OverrideList) : Option Nat :=
  (ol.entries.map fun e => if e.kind = .floor then some (e.floorLevel.getD 0) else none).foldl largerFloor none

/-- The FLOOR term: read in RUNNING only (R71, R79). -/
def State.floorTerm (s : State) : Option Nat := if s.le.station = .running then s.ol.highestFloor else none

/-- The terms present at this update, in the order of R74. -/
def State.terms (s : State) (trim : Nat) : List (Term × Nat) :=
  [(.portalA, s.sideDemand trim s.pa.a s.dc.ratioA)] ++
    (if s.serves .b then [(.portalB, s.sideDemand trim s.pa.b s.dc.ratioB)] else []) ++
    [(.interior, s.cfg.interior), (.neighbour, s.neighbourFloor)] ++
    (s.floorTerm.map fun l => (Term.floor, l)).toList

/-- The target luminance: the largest term (R73). -/
def targetOf (terms : List (Term × Nat)) : Nat := (terms.map Prod.snd).foldl max 0

/-- The governing term: the first whose value equals the target (R74). -/
def governingOf (terms : List (Term × Nat)) : Option Term := (terms.find? fun t => t.2 == targetOf terms).map Prod.fst

/-- The counts a target luminance needs, before the clamp (R76). -/
def countsFor (target yield : Nat) : Nat := (target * 10000 + yield - 1) / yield

/-- The required level (R76). -/
def requiredLevel (target yield : Nat) : Nat := min (countsFor target yield) fullLevel

/-- The trim value in force at an update: a pending trim is taken up first (R54). -/
def Demand.trimInForce (d : Demand) : Nat := d.pendingTrim.getD d.trim

/-- The result of the demand calculator: sides formed, pending trim taken up, target, governing term and required level set,
and the required-level part of CAPACITY examined (R63, R73 to R78). -/
def State.formDemand (s : State) : State :=
  let f := s.formSides
  let trim := s.dc.trimInForce
  let terms := f.terms trim
  let target := targetOf terms
  let part := decide (s.le.station = .running) && decide (fullLevel < countsFor target s.yieldE)
  { f with
    dc := { s.dc with trim := trim, pendingTrim := none, target := some target, required := some (requiredLevel target s.yieldE),
                      term := governingOf terms, capacityPart := part },
    fr := f.fr.raiseIf part .capacity }

/-! ### TRIM (R55 to R58) -/

/-- A TRIM is refused: not permitted by the record, or locked down (R55). -/
def State.trimRefused (s : State) : Bool := !s.cfg.trimPermitted || s.dc.lockDown

/-- A TRIM frame is handed to the demand calculator (R55 to R58): refused with TRIM_REFUSED, or applied, its lock field engaging
the lock-down afterwards; ignored in FALLBACK. -/
def State.takeTrim (s : State) (r : RawFrame) : State :=
  if s.le.station.regulates then
    if s.trimRefused then s.raiseIf true .trimRefused
    else
      let f := readTrim r.payload
      { s with dc := { s.dc with pendingTrim := some (clampTo trimMin trimMax f.trim), lockDown := s.dc.lockDown || f.lock != 0 } }
  else s

end Sys2Proof.Machine
end

