-- ==== Sys2Proof/Machine/Overrides.lean ====
section
/-! DEFINITION. The override list and the FULLIN contact: OVERRIDE frames, OVERRIDE_SECOND_TIMER_EXPIRY, FULLIN_PIN_CHANGE,
FULLIN_DEBOUNCE_EXPIRY and PROPAGATION_TIMER_EXPIRY (R101 to R118). -/

namespace Sys2Proof.Machine

/-! ### Reading the list (R111) -/

/-- The list holds a FULL entry. -/
def OverrideList.holdsFull (ol : OverrideList) : Bool := ol.entries.any fun e => e.kind == .full

/-- A FULL is effective: the debounced contact is closed, or the list holds a FULL entry (R111). -/
def OverrideList.fullEffective (ol : OverrideList) : Bool := ol.contactClosed || ol.holdsFull

/-- A HOLD is present (R111). -/
def OverrideList.holdPresent (ol : OverrideList) : Bool := ol.entries.any fun e => e.kind == .hold

/-- An effective FULL begins: in RUNNING the level engine sets C and T to 10000 at once, clears the SUSPENDED mark and hands C
to the channel block; elsewhere the signal changes nothing (R85). -/
def State.beginFull (s : State) : State :=
  if s.le.station = .running then
    ({ s with le := { s.le with level := fullLevel, target := fullLevel, suspended := false } } : State).handOver fullLevel
  else s

/-! ### The list (R101 to R108) -/

/-- The priority of a kind (R101). -/
def overridePriority : OverrideKind → Nat
  | .full => 3 | .floor => 2 | .hold => 1

/-- The entry of a source and kind. -/
def OverrideEntry.matches (e : OverrideEntry) (source : Byte) (kind : OverrideKind) : Bool := e.source == source && e.kind == kind

/-- A new or refreshed entry, with its fields clamped (R103 to R105). -/
def overrideEntry (source : Byte) (kind : OverrideKind) (f : OverrideFields) (now : Time) : OverrideEntry :=
  { source := source, kind := kind, floorLevel := if kind = .floor then some (min f.level 2000) else none,
    remaining := min f.duration 3600, secondDue := now + secondPeriod }

/-- Of two candidates, the first gives way before the second: lower priority, then less remaining time, first in seconds and
then on the second timer; on equality the earlier place is kept by `chooseOverrideVictim` (R106). -/
def yieldsBefore (x y : OverrideEntry) : Bool :=
  if overridePriority x.kind ≠ overridePriority y.kind then decide (overridePriority x.kind < overridePriority y.kind)
  else if x.remaining ≠ y.remaining then decide (x.remaining < y.remaining)
  else decide (x.secondDue < y.secondDue)

/-- The victim among the candidates, the earliest place winning a tie (R106). -/
def chooseOverrideVictim : List OverrideEntry → Option OverrideEntry
  | [] => none
  | e :: rest =>
    match chooseOverrideVictim rest with
    | none => some e
    | some v => if yieldsBefore v e then some v else some e

/-- The victim of a full list for a new entry of a kind: among the entries of equal or lower priority (R106). -/
def OverrideList.victimFor (ol : OverrideList) (kind : OverrideKind) : Option OverrideEntry :=
  chooseOverrideVictim (ol.entries.filter fun e => decide (overridePriority e.kind ≤ overridePriority kind))

/-- A new entry has joined the end of `kept`; a FULL that was not effective before begins (R105, R106). -/
def State.admitOverride (s : State) (kept : List OverrideEntry) (e : OverrideEntry) : State :=
  let admitted : State := { s with ol := { s.ol with entries := kept ++ [e] } }
  if e.kind = .full ∧ s.ol.fullEffective = false then admitted.beginFull else admitted

/-- An order: refreshed in place (R104), admitted (R105), admitted in a victim's stead (R106), or refused (R107). -/
def State.takeOrder (s : State) (source : Byte) (kind : OverrideKind) (f : OverrideFields) : State :=
  let e := overrideEntry source kind f s.now
  if s.ol.entries.any fun x => x.matches source kind then
    { s with ol := { s.ol with entries := s.ol.entries.map fun x => if x.matches source kind then e else x } }
  else if s.ol.entries.length < listSize then s.admitOverride s.ol.entries e
  else
    match s.ol.victimFor kind with
    | some v => s.admitOverride (s.ol.entries.filter fun x => !x.matches v.source v.kind) e
    | none => s.raiseIf true .overrideRefused

/-- A release removes the entry of its source and kind; one that matches no entry is ignored (R108). -/
def State.takeRelease (s : State) (source : Byte) (kind : OverrideKind) : State :=
  { s with ol := { s.ol with entries := s.ol.entries.filter fun x => !x.matches source kind } }

/-- An OVERRIDE frame is handed to the override list (R103): taken in LISTENING and RUNNING, ignored in FALLBACK. -/
def State.takeOverride (s : State) (r : RawFrame) : State :=
  if s.le.station.regulates then
    if r.src = 255 then s
    else
      match (readOverride r.payload).kind with
      | none => s
      | some kind =>
        if (readOverride r.payload).duration = 0 then s.takeRelease r.src kind
        else s.takeOrder r.src kind (readOverride r.payload)
  else s

/-! ### Expiry (R102) -/

/-- An entry whose second timer has expired: one second less; it restarts, or leaves at 0 (R102). -/
def OverrideEntry.secondPassed (e : OverrideEntry) (now : Time) : Option OverrideEntry :=
  if e.remaining ≤ 1 then none else some { e with remaining := e.remaining - 1, secondDue := now + secondPeriod }

/-- OVERRIDE_SECOND_TIMER_EXPIRY (R102). -/
def execOverrideSecondTimerExpiry (source : Byte) (kind : OverrideKind) (s : State) : Result :=
  match s.ol.entries.find? fun x => x.matches source kind with
  | some e =>
    let at' := s.elapseTo e.secondDue
    .next { at' with ol := { at'.ol with
      entries := at'.ol.entries.filterMap fun x => if x.matches source kind then x.secondPassed at'.now else some x } }
  | none => .next s

/-! ### The FULLIN contact (R112 to R115) -/

/-- Propagation is on: LISTENING or RUNNING with the contact propagation mark set (R114, R115). -/
def State.propagates (s : State) : Bool := s.le.station.regulates && s.cfg.propagate

/-- A FULL content of a duration is placed in the OVERRIDE slot, addressed to the propagation group (R114). -/
def State.placeOverride (s : State) (duration : Nat) : State :=
  s.fillSlot .override { dest := s.cfg.group, kind := .override, tag := 0, payload := writeOverride .full 0 duration }

/-- FULLIN_PIN_CHANGE (R112): the pin takes a new level; the debounce timer starts where it now differs from the debounced
state and stops where it agrees. While the part is held in reset or unpowered the pin is not compared (R174). -/
def execFullinPinChange (closed : Bool) (s : State) : Result :=
  if s.fullinClosed = closed then .next s
  else
    let moved : State := { s with fullinClosed := closed }
    if s.powered && !s.rstnLow then
      .next { moved with ol := { moved.ol with
        debounceTimer := if closed = s.ol.contactClosed then none else some (s.now + debounceTime) } }
    else .next moved

/-- The debounced contact closes: an effective FULL begins where no FULL entry is held (R113), and where propagation is on a
FULL of 10 s is placed and the propagation timer started (R114). -/
def State.contactCloses (s : State) : State :=
  let closed : State := { s with ol := { s.ol with contactClosed := true } }
  let acted := if s.ol.holdsFull then closed else closed.beginFull
  if s.propagates then
    let timed : State := { acted with ol := { acted.ol with propagationTimer := some (s.now + propagationPeriod) } }
    timed.placeOverride 10
  else acted

/-- The debounced contact opens: where propagation is on a release is placed and the propagation timer stops (R114). The end of
an effective FULL is read at the next update (R113). -/
def State.contactOpens (s : State) : State :=
  let opened : State := { s with ol := { s.ol with contactClosed := false, propagationTimer := none } }
  if s.propagates then opened.placeOverride 0 else opened

/-- FULLIN_DEBOUNCE_EXPIRY (R112, R113): the debounced state takes the level at the pin. -/
def execFullinDebounceExpiry (s : State) : Result :=
  match s.ol.debounceTimer with
  | some due =>
    let at' := s.elapseTo due
    let stopped : State := { at' with ol := { at'.ol with debounceTimer := none } }
    .next (if s.fullinClosed = s.ol.contactClosed then stopped
           else if s.fullinClosed then stopped.contactCloses else stopped.contactOpens)
  | none => .next s

/-- PROPAGATION_TIMER_EXPIRY (R114): with the contact closed and propagation on, a FULL of 10 s is placed and the timer
restarts. -/
def execPropagationTimerExpiry (s : State) : Result :=
  match s.ol.propagationTimer with
  | some due =>
    let at' := s.elapseTo due
    if s.ol.contactClosed && s.propagates then
      let timed : State := { at' with ol := { at'.ol with propagationTimer := some (at'.now + propagationPeriod) } }
      .next (timed.placeOverride 10)
    else .next { at' with ol := { at'.ol with propagationTimer := none } }
  | none => .next s

end Sys2Proof.Machine
end

