-- ==== Sys2Proof/Machine/Level.lean ====
section
/-! DEFINITION. The level engine: LEVEL_UPDATE and LISTENING_TIMER_EXPIRY (R82 to R100). -/

namespace Sys2Proof.Machine

/-- One step of the slew: toward T by at most U up or D down, never past it (R84). -/
def slew (rise fall level target : Nat) : Nat :=
  if level < target then level + min (target - level) rise
  else if target < level then level - min (level - target) fall
  else level

/-- The delivered luminance of delivered counts (R89). -/
def deliveredLuminance (counts yield : Nat) : Nat := counts * yield / 10000

/-! ### LEVEL reports (R95 to R98) -/

/-- The named fields of a LEVEL content, taken at the moment of placement (R97). -/
def State.levelFields (s : State) : LevelFields :=
  { delivered := s.le.delivered, target := s.le.reportedTarget.getD 0, level := s.le.level, station := s.le.station,
    suspended := s.le.suspended, restart := s.le.restartPending, term := s.le.reportedTerm, configured := s.channelCount,
    healthy := s.ch.healthyCount s.channelCount, flags := s.fr.flags }

/-- A LEVEL content is placed, addressed to broadcast, with the next tag; Lr takes its delivered luminance and the time since
the last placement returns to 0 (R95, R97, R98). -/
def State.placeLevel (s : State) : State :=
  let placed : State :=
    { s with le := { s.le with tag := s.le.tag + 1, lastReported := s.le.delivered, placedAt := s.now, firstUpdate := false } }
  placed.fillSlot .level { dest := 255, kind := .level, tag := s.le.tag, payload := writeLevel s.levelFields }

/-- The time since the last LEVEL placement, at most 2000 ms (R95). -/
def State.sincePlacement (s : State) : Time := ageAt s.now s.le.placedAt placementLimit

/-- The first update of LISTENING or FALLBACK places unconditionally (R95). -/
def State.firstPlacement (s : State) : Bool :=
  s.le.firstUpdate && (decide (s.le.station = .listening) || decide (s.le.station = .fallback))

/-- A LEVEL content is to be placed at this update: first, due after P (R95), or early (R96). -/
def State.levelDue (s : State) : Bool :=
  s.firstPlacement || decide (ms s.reportPeriod ≤ s.sincePlacement) ||
    (movedEnough s.le.delivered s.le.lastReported && quarterPassed s.sincePlacement s.reportPeriod)

/-- The end of a level update: the delivered luminance is formed with yield `yield` (R89), and a content is placed where one is
due (R95, R96). -/
def State.report (s : State) (yield : Nat) : State :=
  let formed : State := { s with le := { s.le with delivered := deliveredLuminance s.ch.delivered yield } }
  if formed.levelDue then formed.placeLevel else formed

/-! ### The level update by station state (R82, R83) -/

/-- LISTENING: the demand is formed; C and T stay at 10000, and START is reported (R82, R88, R92). -/
def State.updateListening (s : State) : State :=
  let d := s.formDemand
  let set : State :=
    { d with le := { d.le with level := fullLevel, target := fullLevel, reportedTerm := some .start, reportedTarget := d.dc.target } }
  (set.handOver fullLevel).report s.cfg.yield

/-- RUNNING: what the level engine sets from the demand and the override read (R84, R86, R87, R88). -/
def LevelEngine.regulated (e : LevelEngine) (d : Demand) (full hold : Bool) (cfg : Record) : LevelEngine :=
  let required := d.required.getD 0
  if full then
    { e with target := fullLevel, level := fullLevel, suspended := false, reportedTerm := some .full, reportedTarget := some cfg.yield }
  else if hold then
    { e with target := required, suspended := true, reportedTerm := some .hold, reportedTarget := d.target }
  else
    { e with target := required, level := slew cfg.riseLimit cfg.fallLimit e.level required, suspended := false,
             reportedTerm := d.term, reportedTarget := d.target }

/-- RUNNING: the full sequence of R83. -/
def State.updateRunning (s : State) : State :=
  let d := s.formDemand
  let set : State := { d with le := d.le.regulated d.dc s.ol.fullEffective s.ol.holdPresent s.cfg }
  (set.handOver set.le.level).report s.cfg.yield

/-- FALLBACK: C stays at 10000, the yield is taken as 1, and FALLBACK is reported with a target of 1 (R82, R88, R94). -/
def State.updateFallback (s : State) : State :=
  let set : State :=
    { s with le := { s.le with level := fullLevel, target := fullLevel, suspended := false, reportedTerm := some .fallback,
                               reportedTarget := some 1 } }
  (set.handOver fullLevel).report 1

/-- What a level update does in the station state (R82). -/
def State.levelUpdate (s : State) : State :=
  match s.le.station with
  | .configuring => s
  | .listening => s.updateListening
  | .running => s.updateRunning
  | .fallback => s.updateFallback

/-- LEVEL_UPDATE (R82, R83): the update timer restarts with 100 ms and the update of the station state is made. -/
def execLevelUpdate (s : State) : Result :=
  match s.le.updateTimer with
  | some due =>
    let at' := s.elapseTo due
    .next ({ at' with le := { at'.le with updateTimer := some (at'.now + updatePeriod) } } : State).levelUpdate
  | none => .next s

/-- The station enters RUNNING: NEIGHBOUR_LOST and PORTAL_X_LOST are examined; C, T and the SUSPENDED mark stay (R38, R48, R92). -/
def State.enterRunning (s : State) : State :=
  ({ s with le := { s.le with station := .running, listeningTimer := none } } : State).examineNeighbours.examineSides

/-- LISTENING_TIMER_EXPIRY (R92). -/
def execListeningTimerExpiry (s : State) : Result :=
  match s.le.listeningTimer with
  | some due =>
    if s.le.station = .listening then .next (s.elapseTo due).enterRunning else .next s
  | none => .next s

end Sys2Proof.Machine
end

