-- ==== Sys2Proof/Machine/Configuration.lean ====
section
/-! DEFINITION. CONFIG_READ_COMPLETE: the checks, the corrections, the hand-over of the record, and the entry to LISTENING or
FALLBACK (R91, R94, R119, R140, R143, R170 to R173). -/

namespace Sys2Proof.Machine

/-- The line controller takes S, M and the bit rate, and takes the line as busy from this moment (R162, R173). -/
def LineControl.begin (lc : LineControl) (p : LineParams) (now : Time) : LineControl :=
  { lc with params := some p, idle := false, lastChar := now }

/-- The channels below the configured count become DRIVING with nothing remembered; the others stay OFF (R119). -/
def ChannelBlock.energised (b : ChannelBlock) (n : Nat) : ChannelBlock :=
  b.map fun k c => if channelNumber k < n then { Channel.atReset with state := .driving } else c

/-- The mask and CONFIG_FAULT take effect at the same moment (R140, R143, R144). -/
def FaultRecord.configured (fr : FaultRecord) (mask : BitVec 13) (fault : Bool) : FaultRecord :=
  (fr.withMask mask).raiseIf fault .configFault

/-- The record is handed over and the station enters LISTENING (R173): reserved entries (R26), station ratios (R61), trim
default (R54), channels (R119), LISTENING timer and full output (R91), IDENT (R155), photometer (R2). -/
def State.enterListening (s : State) (r : Record) (corrected : Bool) : State :=
  let loaded : State :=
    { s with
      cl := { readDue := none, record := some r, fallback := none, configFault := corrected },
      fr := s.fr.configured r.alarmMask corrected,
      lc := s.lc.begin { address := r.address, mask := r.mask, rate := r.rate } s.now,
      dc := { s.dc with trim := r.trimDefault, ratioA := some (stationRatio r.profile r.distanceA),
                        ratioB := r.distanceB.map (stationRatio r.profile) },
      pt := { s.pt with entries := reservedEntries r.neighbours s.now },
      le := { s.le with station := .listening, level := fullLevel, target := fullLevel,
                        listeningTimer := some (s.now + ms (2 * r.staleTime)) },
      ch := s.ch.energised r.channelCount }
  ((loaded.handOver fullLevel).fillIdent 255).startPhotometer

/-- After a structural failure the station enters FALLBACK with the values of R173 alone: all four channels DRIVING at full output
(R94, R119), the mask at its default (R143). -/
def State.enterFallback (s : State) (p : LineParams) (v : FallbackValues) (trim : Nat) : State :=
  let loaded : State :=
    { s with
      cl := { readDue := none, record := none, fallback := some v, configFault := true },
      fr := s.fr.configured (BitVec.allOnes 13) true,
      lc := s.lc.begin p s.now,
      dc := { s.dc with trim := trim },
      le := { s.le with station := .fallback, level := fullLevel, target := fullLevel },
      ch := s.ch.energised 4 }
  loaded.handOver fullLevel

/-- The one event of completion: check, correct, hand over, leave CONFIGURING (R170). -/
def State.configComplete (s : State) (p : List Byte) : State :=
  if structuralFailure p then s.enterFallback (fallbackLine p) (fallbackValues p) (fallbackTrim p)
  else s.enterListening (correctedRecord p) (needsCorrection p)

/-- CONFIG_READ_COMPLETE (R170): the read completes at its instant and the station leaves CONFIGURING; without a read under way
there is no completion. -/
def execConfigReadComplete (image : List Byte) (s : State) : Result :=
  match s.cl.readDue with
  | some due =>
    if s.le.station = .configuring then .next ((s.elapseTo due).configComplete (recordImage image)) else .next s
  | none => .next s

end Sys2Proof.Machine
end

