-- ==== Sys2Proof/Machine/Resets.lean ====
section
/-! DEFINITION. Supply and RSTN: POWER_UP, POWER_LOSS, RSTN_ASSERT, RSTN_RELEASE (R174), and the line reset of a RESET frame
(R156, R175). -/

namespace Sys2Proof.Machine

/-- The supply rises through the supply-good level: a power-on reset. Where RSTN is low at that moment, every block is held
at its power-on values until RSTN returns high (R174). -/
def State.supplyRises (s : State) : State :=
  let on : State := { s with powered := true }
  if s.rstnLow then on.heldAtPowerOn else on.powerOnReset

/-- RSTN goes low: every block is held at its power-on values with its timers stopped and no read is made (R174). An unpowered
part holds those values already (log 10). -/
def State.rstnFalls (s : State) : State := ({ s with rstnLow := true } : State).heldAtPowerOn

/-- RSTN returns high: the reset ends (R174). It has no effect on a part that RSTN does not hold, and only the pin changes
on an unpowered one (log 28). -/
def State.rstnRises (s : State) : State :=
  if s.rstnLow then
    let high : State := { s with rstnLow := false }
    if s.powered then high.powerOnReset else high
  else s

/-- The supply falls away: the station stops and its outputs go low until POWER_UP (R174). What the blocks hold without
supply is their held power-on values (log 10, DESIGN CHOICE). -/
def State.supplyFalls (s : State) : State := ({ s with powered := false } : State).heldAtPowerOn

/-- POWER_UP (R174). -/
def execPowerUp (s : State) : Result := .next s.supplyRises

/-- RSTN_ASSERT (R174). -/
def execRstnAssert (s : State) : Result := .next s.rstnFalls

/-- RSTN_RELEASE (R174). -/
def execRstnRelease (s : State) : Result := .next s.rstnRises

/-- POWER_LOSS (R174). -/
def execPowerLoss (s : State) : Result := .next s.supplyFalls

/-- An increase of a counter by one, saturating at its top value (R147). -/
def saturatingSucc (top n : Nat) : Nat := min (n + 1) top

/-- A RESET taken: the line resets counter increases, then the station takes a line reset (R147, R156, R175). -/
def State.takeReset (s : State) : State :=
  ({ s with lc := { s.lc with lineResets := saturatingSucc 255 s.lc.lineResets } } : State).lineReset

end Sys2Proof.Machine
end

