-- ==== Sys2Proof/Machine/Transmit.lean ====
section
/-! DEFINITION. Getting onto the line: LINE_IDLE, ACCESS_WAIT_EXPIRY, CONTENT_SENT, COLLISION, TURNAROUND_GUARD_EXPIRY and
ACT_TIMER_EXPIRY (R157 to R161), and the activity indicator. -/

namespace Sys2Proof.Machine

/-- A valid frame received or a content sent lights ACT where it is DARK; in LIT and GUARD there is no effect (R161). -/
def Act.lightened (a : Act) (now : Time) : Act :=
  match a with
  | .dark => .lit (now + actLitTime)
  | .lit due => .lit due
  | .guarding due => .guarding due

/-- The line controller is sending: from the first character of an attempt to the last (R150). -/
def LineControl.sending (lc : LineControl) : Bool :=
  match lc.attempt with
  | some a => match a.phase with
    | .sending _ _ => true
    | .waiting _ => false
  | none => false

/-- A character on the line makes it busy, and a running access wait is abandoned without a count (R158). -/
def LineControl.noteCharacter (lc : LineControl) (now : Time) : LineControl :=
  { lc with idle := false, lastChar := now,
            attempt := match lc.attempt with
              | some a => match a.phase with
                | .sending _ _ => some a
                | .waiting _ => none
              | none => none }

/-- LINE_IDLE (R158): 4 character times have passed without a character. The line becomes idle, a partial frame is discarded
without a count (R150), and an attempt starts where a slot is occupied. -/
def execLineIdle (s : State) : Result :=
  if s.le.station.onLine && !s.lc.idle && !s.lc.sending then
    let at' := s.elapseTo (s.lc.lastChar + idleCharacters * s.line.rate.charTime)
    .next { at' with lc := ({ at'.lc with idle := true, assembly := [] } : LineControl).startAttempt s.line at'.now }
  else .next s

/-- The LC starts to send the content it took: it drives ZDE from this moment, and the assembly stays empty (R150, R159). -/
def LineControl.startSending (lc : LineControl) (a : Attempt) (now : Time) : LineControl :=
  { lc with assembly := [], guardTimer := none, attempt := some { a with phase := .sending now 0 } }

/-- ACCESS_WAIT_EXPIRY (R159). No driving begins before a turnaround guard has ended (R159, log 21). -/
def execAccessWaitExpiry (s : State) : Result :=
  match s.lc.attempt with
  | some a =>
    match a.phase with
    | .waiting due =>
      let at' := s.elapseTo (max due (s.lc.guardTimer.getD 0))
      .next { at' with lc := at'.lc.startSending a at'.now }
    | .sending _ _ => .next s
  | none => .next s

/-- A slot whose content has been sent or dropped: emptied, or filled from empty with the newer content where it was filled
again during the attempt (R157). -/
def Slot.emptied (x : Slot) (refilled : Bool) : Slot := { content := if refilled then x.content else none, attempts := 0 }

/-- The line is released after a frame or a collision: the attempt is over, the line is busy from this character, and the
turnaround guard of one character time runs (R159). -/
def LineControl.released (lc : LineControl) (p : LineParams) (now : Time) : LineControl :=
  { lc with attempt := none, idle := false, lastChar := now, guardTimer := some (now + p.rate.charTime) }

/-- The owner of a slot learns that its content has been sent: RESTART pending ends for PORTAL and LEVEL (R17, R98, R157). -/
def State.noteSent (s : State) (k : SlotId) : State :=
  match k with
  | .portal => { s with pfe := { s.pfe with restartPending := false } }
  | .level => { s with le := { s.le with restartPending := false } }
  | .override => s
  | .ident => s

/-- Every character of the attempt has been read back without difference (R159): the slot is emptied, the owner signalled, ACT
lit, and the line released. -/
def State.finishSending (s : State) (a : Attempt) : State :=
  let slots := s.lc.slots.set a.slot ((s.lc.slots.get a.slot).emptied a.refilled)
  let sent : State :=
    { s with lc := { (s.lc.released s.line s.now) with slots := slots, act := s.lc.act.lightened s.now } }
  sent.noteSent a.slot

/-- A read-back character has differed (R159): the attempt count increases; at the eighth collision the content is dropped, the
drop counted and COLLISION_LIMIT raised (R160). -/
def State.collide (s : State) (a : Attempt) : State :=
  let x := s.lc.slots.get a.slot
  let released := s.lc.released s.line s.now
  if x.attempts + 1 < attemptLimit then
    { s with lc := { released with slots := s.lc.slots.set a.slot { x with attempts := x.attempts + 1 } } }
  else
    { s with lc := { released with slots := s.lc.slots.set a.slot (x.emptied a.refilled),
                                   collisionDrops := min (s.lc.collisionDrops + 1) 65535 },
             fr := s.fr.raiseIf true .collisionLimit }

/-- The number of characters of a content's frame: 7 + L (R149). -/
def Content.frameLength (c : Content) : Nat := 7 + c.payload.length

/-- CONTENT_SENT (R159): at the end of the last character. -/
def execContentSent (s : State) : Result :=
  match s.lc.attempt with
  | some a =>
    match a.phase with
    | .sending start _ => .next ((s.elapseTo (start + a.content.frameLength * s.line.rate.charTime)).finishSending a)
    | .waiting _ => .next s
  | none => .next s

/-- COLLISION (R159): at the end of the next character to be read back (log 8). -/
def execCollision (s : State) : Result :=
  match s.lc.attempt with
  | some a =>
    match a.phase with
    | .sending start readBack => .next ((s.elapseTo (start + (readBack + 1) * s.line.rate.charTime)).collide a)
    | .waiting _ => .next s
  | none => .next s

/-- TURNAROUND_GUARD_EXPIRY (R159): the guard ends, and the line controller may drive again. -/
def execTurnaroundGuardExpiry (s : State) : Result :=
  match s.lc.guardTimer with
  | some due =>
    let at' := s.elapseTo due
    .next { at' with lc := { at'.lc with guardTimer := none } }
  | none => .next s

/-- ACT_TIMER_EXPIRY (R161): LIT turns dark into GUARD for 60 ms, GUARD returns to DARK. -/
def execActTimerExpiry (s : State) : Result :=
  match s.lc.act with
  | .lit due =>
    let at' := s.elapseTo due
    .next { at' with lc := { at'.lc with act := .guarding (at'.now + actGuardTime) } }
  | .guarding due =>
    let at' := s.elapseTo due
    .next { at' with lc := { at'.lc with act := .dark } }
  | .dark => .next s

/-- The station's own character returns on ZRX at the end of its time and is compared in its data and mark bits (R159). -/
def State.readBackCharacter (s : State) (a : Attempt) (start : Time) (readBack : Nat) (c : LineChar) : State :=
  let at' := s.elapseTo (start + (readBack + 1) * s.line.rate.charTime)
  match (a.content.chars s.line.address)[readBack]? with
  | some sent =>
    if sent.data = c.data ∧ sent.mark = c.mark then
      if readBack + 1 < a.content.frameLength then
        { at' with lc := { at'.lc with idle := false, lastChar := at'.now,
                                       attempt := some { a with phase := .sending start (readBack + 1) } } }
      else at'.finishSending a
    else at'.collide a
  | none => at'.finishSending a

end Sys2Proof.Machine
end

