-- ==== Sys2Proof/Machine/Receive.lean ====
section
/-! DEFINITION. Receiving: CHARACTER_RECEIVED and the eight frame steps: the checks of a whole frame, addressing, and dispatch to
the owner (R149 to R156). -/

namespace Sys2Proof.Machine

/-! ### Checks (R151 to R153) -/

/-- The outcome of the checks of a whole frame, the first that fails deciding (R151). -/
inductive FrameVerdict where
  /-- Discarded, the CRC errors counter increased: bad CRC, or a length that does not fit its kind. -/
  | counted
  /-- Discarded, not counted: source 0 or an unknown kind. -/
  | discarded
  /-- A valid frame from the station's own address (R152). -/
  | ownSource
  /-- A valid frame that is not addressed to the station. -/
  | notAddressed
  /-- Valid and addressed: handed to the owner of its kind. -/
  | accepted (kind : FrameKind)
  deriving DecidableEq, Repr

/-- A destination is the station's: broadcast, its own address, or a group address that agrees with S wherever M has a 1 (R153). -/
def LineParams.addressed (p : LineParams) (dest : Byte) : Bool :=
  dest == 255 || dest == p.address || (dest != 255 && (dest ^^^ p.address) &&& p.mask == 0)

/-- The checks of R151, in order. -/
def checkFrame (p : LineParams) (r : RawFrame) : FrameVerdict :=
  if crc16 r.covered ≠ r.crc then .counted
  else if r.src = 0 then .discarded
  else
    match FrameKind.ofCode r.kind with
    | none => .discarded
    | some k =>
      if !k.lengthFits r.len then .counted
      else if r.src = p.address then .ownSource
      else if p.addressed r.dest then .accepted k
      else .notAddressed

/-- The CRC errors counter increases by one, saturating (R147). -/
def State.countCrcError (s : State) : State :=
  { s with lc := { s.lc with crcErrors := min (s.lc.crcErrors + 1) 65535 } }

/-- A valid frame lights ACT (R161). -/
def State.lightAct (s : State) : State := { s with lc := { s.lc with act := s.lc.act.lightened s.now } }

/-! ### Dispatch (R154 to R156) -/

/-- The owner of a kind takes the frame (R154). -/
def State.dispatch (s : State) (k : FrameKind) (r : RawFrame) : State :=
  match k with
  | .level => s.takeLevel r
  | .portal => s.takePortal r
  | .override => s.takeOverride r
  | .trim => s.takeTrim r
  | .clear => s.takeClear r
  | .identReq => s.fillIdent r.src
  | .ident => s.takeIdent r
  | .reset => s.takeReset

/-- A whole frame is checked and, where valid and addressed, handed to its owner (R151, R152, R154). -/
def State.wholeFrame (s : State) (r : RawFrame) : State :=
  match checkFrame s.line r with
  | .counted => s.countCrcError
  | .discarded => s
  | .ownSource => s.lightAct.raiseIf true .addressConflict
  | .notAddressed => s.lightAct
  | .accepted k => s.lightAct.dispatch k r

/-! ### Characters (R150) -/

/-- A length above 48: the assembly is abandoned, and counted where the kind character names a kind (R150). -/
def State.abandonOverlong (s : State) (kind : Byte) : State := if (FrameKind.ofCode kind).isSome then s.countCrcError else s

/-- The state with the receive assembly holding `bytes`. -/
def State.withAssembly (s : State) (bytes : List Byte) : State := { s with lc := { s.lc with assembly := bytes } }

/-- A character with mark bit 0 has been added to the assembly, which now holds `bytes` (R150). -/
def State.assembled (s : State) (bytes : List Byte) : State :=
  if bytes.length < 5 then s.withAssembly bytes
  else if maxPayload < (byteAt bytes 4).toNat then (s.withAssembly []).abandonOverlong (byteAt bytes 2)
  else if bytes.length < 7 + (byteAt bytes 4).toNat then s.withAssembly bytes
  else (s.withAssembly []).wholeFrame (rawOfAssembly bytes)

/-- A character is taken while the station is not sending: the line is busy, a running access wait is abandoned, and the
assembly begins, grows or completes (R150, R158). -/
def State.takeCharacter (s : State) (c : LineChar) : State :=
  let busy : State := { s with lc := s.lc.noteCharacter s.now }
  if c.mark then busy.withAssembly [c.data]
  else if s.lc.assembly.isEmpty then busy
  else busy.assembled (s.lc.assembly ++ [c.data])

/-- CHARACTER_RECEIVED (R149, R150, R159): ignored in CONFIGURING; while the station is sending it is the station's own
character, read back; otherwise it is taken. The stop bit makes no difference (R149). -/
def execCharacterReceived (c : LineChar) (s : State) : Result :=
  if s.le.station.onLine then
    match s.lc.attempt with
    | some a =>
      match a.phase with
      | .sending start readBack => .next (s.readBackCharacter a start readBack c)
      | .waiting _ => .next (s.takeCharacter c)
    | none => .next (s.takeCharacter c)
  else .next s

/-! ### Whole frames (log 7) -/

/-- A whole frame of kind `k` has arrived, all its characters received: the line is busy, a running access wait is abandoned,
and the frame is checked and dispatched. A length above 48 is dealt with at the length character (R150). -/
def State.arrive (s : State) (k : FrameKind) (f : Frame) : State :=
  let heard := ({ s with lc := s.lc.noteCharacter s.now } : State).withAssembly []
  if maxPayload < f.payload.length then heard.abandonOverlong k.code else heard.wholeFrame (rawOfFrame k f)

/-- A frame step: nothing is received in CONFIGURING or while the station is sending (R150). -/
def State.frameStep (s : State) (k : FrameKind) (f : Frame) : State :=
  if s.le.station.onLine && !s.lc.sending then s.arrive k f else s

/-- LEVEL_FRAME (R27). -/
def execLevelFrame (f : Frame) (s : State) : Result := .next (s.frameStep .level f)

/-- PORTAL_FRAME (R28). -/
def execPortalFrame (f : Frame) (s : State) : Result := .next (s.frameStep .portal f)

/-- IDENT_FRAME (R29). -/
def execIdentFrame (f : Frame) (s : State) : Result := .next (s.frameStep .ident f)

/-- OVERRIDE_FRAME (R103). -/
def execOverrideFrame (f : Frame) (s : State) : Result := .next (s.frameStep .override f)

/-- TRIM_FRAME (R55). -/
def execTrimFrame (f : Frame) (s : State) : Result := .next (s.frameStep .trim f)

/-- CLEAR_FRAME (R141). -/
def execClearFrame (f : Frame) (s : State) : Result := .next (s.frameStep .clear f)

/-- IDENT_REQ_FRAME (R155). -/
def execIdentReqFrame (f : Frame) (s : State) : Result := .next (s.frameStep .identReq f)

/-- RESET_FRAME (R156). -/
def execResetFrame (f : Frame) (s : State) : Result := .next (s.frameStep .reset f)

end Sys2Proof.Machine
end

