-- ==== Sys2Proof/Machine/Dispatch.lean ====
section
/-! DEFINITION. The meaning of every command: one arm per row of spec/opcode_table.json. -/

namespace Sys2Proof.Machine

def exec (i : Instr) (s : State) : Host.Outcome State Fault Refusal :=
  match i with
  | .powerUp => Sys2Proof.Machine.execPowerUp s
  | .rstnAssert => Sys2Proof.Machine.execRstnAssert s
  | .rstnRelease => Sys2Proof.Machine.execRstnRelease s
  | .configReadComplete image => Sys2Proof.Machine.execConfigReadComplete image s
  | .sampleInstant count => Sys2Proof.Machine.execSampleInstant count s
  | .phinLeavesBand => Sys2Proof.Machine.execPhinLeavesBand s
  | .phinReturnsToBand => Sys2Proof.Machine.execPhinReturnsToBand s
  | .recoveryTimerExpiry => Sys2Proof.Machine.execRecoveryTimerExpiry s
  | .portalReportTimerExpiry => Sys2Proof.Machine.execPortalReportTimerExpiry s
  | .levelUpdate => Sys2Proof.Machine.execLevelUpdate s
  | .listeningTimerExpiry => Sys2Proof.Machine.execListeningTimerExpiry s
  | .partStale addr part => Sys2Proof.Machine.execPartStale addr part s
  | .partLost addr part => Sys2Proof.Machine.execPartLost addr part s
  | .entryLost addr => Sys2Proof.Machine.execEntryLost addr s
  | .characterReceived c => Sys2Proof.Machine.execCharacterReceived c s
  | .levelFrame f => Sys2Proof.Machine.execLevelFrame f s
  | .portalFrame f => Sys2Proof.Machine.execPortalFrame f s
  | .identFrame f => Sys2Proof.Machine.execIdentFrame f s
  | .overrideFrame f => Sys2Proof.Machine.execOverrideFrame f s
  | .overrideSecondTimerExpiry source kind => Sys2Proof.Machine.execOverrideSecondTimerExpiry source kind s
  | .trimFrame f => Sys2Proof.Machine.execTrimFrame f s
  | .clearFrame f => Sys2Proof.Machine.execClearFrame f s
  | .identReqFrame f => Sys2Proof.Machine.execIdentReqFrame f s
  | .resetFrame f => Sys2Proof.Machine.execResetFrame f s
  | .lineIdle => Sys2Proof.Machine.execLineIdle s
  | .accessWaitExpiry => Sys2Proof.Machine.execAccessWaitExpiry s
  | .contentSent => Sys2Proof.Machine.execContentSent s
  | .collision => Sys2Proof.Machine.execCollision s
  | .turnaroundGuardExpiry => Sys2Proof.Machine.execTurnaroundGuardExpiry s
  | .actTimerExpiry => Sys2Proof.Machine.execActTimerExpiry s
  | .fullinPinChange closed => Sys2Proof.Machine.execFullinPinChange closed s
  | .fullinDebounceExpiry => Sys2Proof.Machine.execFullinDebounceExpiry s
  | .propagationTimerExpiry => Sys2Proof.Machine.execPropagationTimerExpiry s
  | .pwmPeriodStart => Sys2Proof.Machine.execPwmPeriodStart s
  | .overcurrentTrip ch => Sys2Proof.Machine.execOvercurrentTrip ch s
  | .retryTimerExpiry ch => Sys2Proof.Machine.execRetryTimerExpiry ch s
  | .tripTimeExpiry ch => Sys2Proof.Machine.execTripTimeExpiry ch s
  | .openTimerExpiry ch => Sys2Proof.Machine.execOpenTimerExpiry ch s
  | .loadCurrentPulse ch => Sys2Proof.Machine.execLoadCurrentPulse ch s
  | .powerLoss => Sys2Proof.Machine.execPowerLoss s

end Sys2Proof.Machine
end

