-- ==== Sys2Proof/Machine/Outputs.lean ====
section
/-! DEFINITION. The output pins of 00 section 1.8, as functions of the state; the gate drives are State.gateDrive of Channels.lean.
Without supply every pin reads low (log 10). -/

namespace Sys2Proof.Machine

/-- ZDE is high while the station sends (R149, R159). -/
def State.zde (s : State) : Bool := s.powered && s.lc.sending

/-- Bit time `i` of a character: the start bit at 0, the data bits least significant first, the mark bit, the stop bit at 1 (R149). -/
def lineBit (c : LineChar) (i : Nat) : Bool :=
  if i = 0 then false else if i ≤ 8 then c.data.getLsbD (i - 1) else if i = 9 then c.mark else true

/-- The level of ZTX while the frame of a content is being sent, `elapsed` after its first character began: the bit of the character
whose time it is, each of the 11 bits for an eleventh of the character time; 1 after the last character (R149, R159, log 23). -/
def Content.levelAt (c : Content) (p : LineParams) (elapsed : Time) : Bool :=
  match (c.chars p.address)[elapsed / p.rate.charTime]? with
  | some x => lineBit x (elapsed % p.rate.charTime * 11 / p.rate.charTime)
  | none => true

/-- The level of ZTX: the frame being sent while ZDE is high, and held at 1 while ZDE is low (R149). -/
def State.ztx (s : State) : Bool :=
  s.powered && (match s.lc.attempt with
    | some a => match a.phase with
      | .sending start _ => a.content.levelAt s.line (s.now - start)
      | .waiting _ => true
    | none => true)

/-- The ALARM output (R144). -/
def State.alarmPin (s : State) : Bool := s.powered && s.fr.alarm

/-- The ACT output: driven while LIT (R161). -/
def State.actPin (s : State) : Bool :=
  s.powered && (match s.lc.act with
    | .lit _ => true
    | .dark => false
    | .guarding _ => false)

/-- The level of CSN: low while the record is being read, high otherwise (R170); low without supply (log 10, DESIGN CHOICE). -/
def State.csn (s : State) : Bool := s.powered && s.cl.readDue.isNone

/-- What the loader sends at the start of a read: the read command byte and the start address 0x0000 (R170). -/
def readCommand : List Byte := [0x03, 0x00, 0x00]

/-- The time of one byte on the SPI port: eight bits at 1 MHz (R170). -/
def spiByteTime : Time := us 8

/-- The byte that SDO carries: the read command and its address in the first three byte times of a read. The spec gives none while
the record is clocked in (R170, log 23). -/
def State.sdoByte (s : State) : Option Byte :=
  match s.cl.readDue with
  | some due => if s.powered then readCommand[(s.now + configReadTime - due) / spiByteTime]? else none
  | none => none

end Sys2Proof.Machine
end

