-- ==== Sys2Proof/Safety.lean ====
section
/-! DEFINITION. What counts as a sound state of the part, in the terms the statements use: the invariants the spec states about
what the blocks hold, and when a frame is heard, valid and addressed. -/

namespace Sys2Proof.Machine

/-! ### When a frame reaches its owner (R150, R151, R153) -/

/-- The line controller receives: not in CONFIGURING, and not while it sends (R150). -/
abbrev State.Hears (s : State) : Prop := s.le.station ≠ .configuring ∧ s.lc.sending = false

/-- A destination is addressed to the station by its own address, by broadcast or by the group mask (R153). -/
abbrev State.AddressedBy (s : State) (dest : Byte) : Prop :=
  dest = 255 ∨ dest = s.line.address ∨ (dest ≠ 255 ∧ ∀ i < 8, s.line.mask.getLsbD i = true → dest.getLsbD i = s.line.address.getLsbD i)

/-- A whole frame of kind `k` and payload length `len` passes the CRC, source, kind and length checks (R151). -/
abbrev ValidFrame (k : FrameKind) (len : Nat) (f : Frame) : Prop :=
  f.payload.length = len ∧ f.src ≠ 0 ∧
    f.crc = crc16 (f.dest :: f.src :: k.code :: f.tag :: BitVec.ofNat 8 len :: f.payload)

/-- A frame is handed to its owner: heard, valid, from another station, and addressed (R150 to R154). -/
abbrev State.Takes (s : State) (k : FrameKind) (len : Nat) (f : Frame) : Prop :=
  s.Hears ∧ ValidFrame k len f ∧ f.src ≠ s.line.address ∧ s.AddressedBy f.dest

/-- The entry a report from `src` is taken into: the one the table holds, or a new one where there is room (R22, R27, R34). -/
abbrev State.EntryFor (s : State) (src : Byte) (e : Entry) : Prop :=
  findEntry s.pt.entries src = some e ∨
    (findEntry s.pt.entries src = none ∧ s.pt.entries.length < 32 ∧
      e = { addr := src, reserved := false, side := none, luminaire := false, heardAt := s.now, agedOut := false,
            portal := none, level := none })

/-- Some reserved entry has no level part, or one that is no longer FRESH: its age lies beyond the stale time, or stands at it with
PART_STALE taken (R38, log 29). -/
abbrev State.NeighbourMissing (s : State) : Prop :=
  ∃ e ∈ s.pt.entries, e.reserved = true ∧
    ∀ l, e.level = some l →
      20000 * s.cfg.staleTime < min (s.now - l.takenAt) 1310700000 ∨
        20000 * s.cfg.staleTime = min (s.now - l.takenAt) 1310700000 ∧ l.aged ≠ .fresh

/-- A FULL is effective: the debounced contact is closed, or a FULL entry is held (R111). -/
abbrev State.FullInForce (s : State) : Prop := s.ol.contactClosed = true ∨ ∃ e ∈ s.ol.entries, e.kind = .full

/-- A HOLD entry is held (R111). -/
abbrev State.HoldInForce (s : State) : Prop := ∃ e ∈ s.ol.entries, e.kind = .hold

/-- The record of a side. -/
def Aggregator.get (pa : Aggregator) : Side → SideRecord
  | .a => pa.a
  | .b => pa.b

/-- The command of a whole frame of kind `k`. -/
def frameCommand : FrameKind → Frame → Instr
  | .level, f => .levelFrame f
  | .portal, f => .portalFrame f
  | .override, f => .overrideFrame f
  | .trim, f => .trimFrame f
  | .clear, f => .clearFrame f
  | .identReq, f => .identReqFrame f
  | .ident, f => .identFrame f
  | .reset, f => .resetFrame f

/-- Commands taken one after the other. -/
def execAll : List Instr → State → Result
  | [], s => .next s
  | c :: rest, s =>
    match exec c s with
    | .next t => execAll rest t
    | .fault r => .fault r
    | .refused r => .refused r

/-! ### Invariants -/

/-- "ALARM is asserted exactly when at least one flag enabled in the alarm mask is set." (R141, R144) -/
def State.AlarmFollowsFlags (s : State) : Prop :=
  s.fr.alarm = true ↔ ∃ f : Flag, s.fr.flags.getLsbD f.position = true ∧ s.fr.mask.getLsbD f.position = true

/-- While a condition is present its flag is set (R139, R141). -/
def State.ConditionsFlagged (s : State) : Prop := ∀ f : Flag, s.condition f = true → s.fr.isSet f = true

/-- The peer table (R21, R25, R40): at most 32 entries, addresses strictly rising, none of them 0, 255 or the station's own, at
most 2 of them reserved, and no entry outside LISTENING and RUNNING. -/
def State.TableSound (s : State) : Prop :=
  s.pt.entries.length ≤ 32 ∧
    s.pt.entries.Pairwise (fun x y => x.addr < y.addr) ∧
    (∀ e ∈ s.pt.entries, e.addr ≠ 0 ∧ e.addr ≠ 255 ∧ e.addr ≠ s.line.address) ∧
    (s.pt.entries.filter Entry.reserved).length ≤ 2 ∧
    (s.le.station.regulates = false → s.pt.entries = [])

/-- The override list (R101, R103): at most 4 entries, no two with the same source and kind, each with 1 to 3600 s remaining, a
level of at most 2000 on FLOOR entries and none on others, and no entry outside LISTENING and RUNNING. -/
def State.ListSound (s : State) : Prop :=
  s.ol.entries.length ≤ 4 ∧
    s.ol.entries.Pairwise (fun x y => ¬(x.source = y.source ∧ x.kind = y.kind)) ∧
    (∀ e ∈ s.ol.entries, 1 ≤ e.remaining ∧ e.remaining ≤ 3600 ∧ e.source ≠ 0 ∧ e.source ≠ 255 ∧
      ((e.kind = .floor ∧ ∃ l ≤ 2000, e.floorLevel = some l) ∨ (e.kind ≠ .floor ∧ e.floorLevel = none))) ∧
    (s.le.station.regulates = false → s.ol.entries = [])

/-- One channel (R120, R126, R127, R129, R132): its command and its applied command are at most 10000, its
command is 0 unless DRIVING, only a DRIVING channel carries
the OPEN mark or runs its open timer, and never both; its history holds at most 3 times and its count stays below 64. -/
def Channel.Sound (c : Channel) : Prop :=
  c.command ≤ 10000 ∧ c.applied ≤ 10000 ∧ (c.state ≠ .driving → c.command = 0 ∧ c.openMark = false) ∧
    (c.openTimer ≠ none → c.state = .driving ∧ c.openMark = false) ∧ c.history.length ≤ 3 ∧ c.tripped < 64

/-- The output level and the channels (R84, R100, R120, R135): C, T and the held level are at most 10000, every channel is sound,
and every channel is OFF in CONFIGURING. -/
def State.OutputSound (s : State) : Prop :=
  s.le.level ≤ 10000 ∧ s.le.target ≤ 10000 ∧ (∀ l, s.ch.held = some l → l ≤ 10000) ∧
    (∀ k, (s.ch.get k).Sound) ∧ (s.le.station = .configuring → ∀ k, (s.ch.get k).state = .off)

/-- The photometer front end (R1, R7): at most 3 samples in the window, each at most 16000 and taken at the present gain; the
reading and the last reported luminance at most 16000; and while the front end is off its timers are stopped, its reading
invalid, SENSOR_FAULT absent, its mark clear, its gain 16 and its window empty. -/
def State.FrontEndSound (s : State) : Prop :=
  s.pfe.window.length ≤ 3 ∧
    (∀ x ∈ s.pfe.window, x.luminance ≤ 16000 ∧ x.gain = s.pfe.gain) ∧
    (∀ l, s.pfe.reading = some l → l ≤ 16000) ∧ s.pfe.lastReported ≤ 16000 ∧
    (s.pfe.sensorFault = true → s.pfe.window = [] ∧ s.pfe.reading = none ∧ s.pfe.saturated = false) ∧
    (s.pfeOn = false →
      s.pfe.sampleTimer = none ∧ s.pfe.recoveryTimer = none ∧ s.pfe.reportTimer = none ∧ s.pfe.reading = none ∧
        s.pfe.sensorFault = false ∧ s.pfe.saturated = false ∧ s.pfe.gain = .g16 ∧ s.pfe.window = [])

/-- The line controller (R147, R150, R157): attempt counts below 8, the counters within their ranges, and an assembly shorter than
the longest frame. -/
def State.LineSound (s : State) : Prop :=
  (∀ k, (s.lc.slots.get k).attempts < 8) ∧ s.lc.lineResets ≤ 255 ∧ s.lc.collisionDrops ≤ 65535 ∧ s.lc.crcErrors ≤ 65535 ∧
    s.lc.assembly.length < 55

/-- The trim state (R54): the trim value and a pending trim lie within 800 to 1200. -/
def State.TrimSound (s : State) : Prop :=
  800 ≤ s.dc.trim ∧ s.dc.trim ≤ 1200 ∧ ∀ t, s.dc.pendingTrim = some t → 800 ≤ t ∧ t ≤ 1200

/-! ### Values in force (R119, R125, R127, R135, R136, R173) -/

/-- Where the values of the channel block come from: in LISTENING and RUNNING the loaded record gives n, the protection mode, the filter
width (in counts of 0.05 µs) and the retry time; in FALLBACK they are 4, RETRY, 1 µs and 5 s. The yield and the report period are the
record's, or those handed over for FALLBACK. -/
def State.ValuesInForce (s : State) : Prop :=
  (∀ r, s.le.station = .listening ∨ s.le.station = .running → s.cl.record = some r →
    s.channelCount = r.channelCount ∧ s.protection = r.mode ∧ s.retrySeconds = r.retryTime ∧
      s.filterCounts = (match r.filter with | .zero => 0 | .half => 10 | .one => 20 | .two => 40)) ∧
  (s.le.station = .fallback →
    s.channelCount = 4 ∧ s.protection = .retry ∧ s.retrySeconds = 5 ∧ s.filterCounts = 20) ∧
  (∀ r, s.cl.record = some r → s.yieldE = r.yield ∧ s.reportPeriod = r.reportPeriod) ∧
  (∀ v, s.cl.record = none → s.cl.fallback = some v → s.yieldE = v.yield ∧ s.reportPeriod = v.reportPeriod)

/-! ### What a computation of the channel block gives (R121 to R124, R131 to R133) -/

/-- The table of R121, the delivered counts of R122, the delivery part of CAPACITY (R124), the two conditions (R131, R133) and the
open timers (R132), as they stand after a computation at the present instant, from the held level and the present health.
`timer` gives the open timer each channel had before it: where the timer runs on it keeps its instant, and where it starts it
starts from the full 2 s. -/
def State.ChannelsComputed (t : State) (timer : ChannelId → Option Time) : Prop :=
  let n := t.channelCount
  let h := t.ch.healthyCount n
  let level := t.ch.held.getD 0
  let cmd := min ((level * n + h - 1) / h) 10000
  (∀ k, (t.ch.get k).command = if (t.ch.get k).state = .driving then (if h = 0 then level else cmd) else 0) ∧
  (∀ k, (t.ch.get k).openTimer =
    if t.le.station.regulates = true ∧ (t.ch.get k).state = .driving ∧ (t.ch.get k).openMark = false ∧
        1000 ≤ (t.ch.get k).command
    then some ((timer k).getD (t.now + 40000000)) else none) ∧
  t.ch.delivered = (if n = 0 ∨ h = 0 then 0 else min level (cmd * h / n)) ∧
  (t.ch.capacityPart = true ↔ t.le.station ≠ .configuring ∧ 1 ≤ n ∧ (h = 0 ∨ t.ch.delivered < level)) ∧
  (t.ch.latchedCondition = true ↔ ∃ k, (t.ch.get k).state = .latched) ∧
  (t.ch.openCondition = true ↔ ∃ k, (t.ch.get k).openMark = true) ∧
  (t.ch.capacityPart = true → t.fr.isSet .capacity = true) ∧
  (t.ch.latchedCondition = true → t.fr.isSet .overcurrentLatched = true) ∧
  (t.ch.openCondition = true → t.fr.isSet .openLoad = true)

/-- What a computation leaves alone (R120, R123): every channel but for its command and its open timer, and the PWM period timer. -/
def State.OnlyRecomputed (t s : State) : Prop :=
  (∀ k, t.ch.get k = { s.ch.get k with command := (t.ch.get k).command, openTimer := (t.ch.get k).openTimer }) ∧
  t.ch.pwmTimer = s.ch.pwmTimer

/-- The fault record from `s` to `t`: no flag is cleared, no flag outside `fs` is set, and the alarm mask stays (R141, R143). -/
def State.RaisesOnly (t s : State) (fs : List Flag) : Prop :=
  t.fr.mask = s.fr.mask ∧
    ∀ g, (s.fr.isSet g = true → t.fr.isSet g = true) ∧ (g ∉ fs → t.fr.isSet g = s.fr.isSet g)

/-- The flags that a computation of the channel block may raise (R124, R131, R133). -/
def channelFlags : List Flag := [.capacity, .overcurrentLatched, .openLoad]

/-! ### The capability chain (R168) -/

/-- The chain of R168, written out: BASE always, PHOTOMETER for a photometer station in LISTENING or RUNNING, CHANNELS in FALLBACK or
with channels, POSITION in LISTENING or RUNNING, COUNTERS always. -/
def State.chainOfR168 (s : State) : List Byte :=
  [1, 5, 1, 0, s.line.address, s.line.mask, s.le.station.code] ++
  (match s.cfg.side with
    | some x => if s.le.station.regulates then
        [2, 4, x.code] ++ be16 s.cfg.fullScale ++ [BitVec.ofNat 8 s.pfe.gain.value] else []
    | none => []) ++
  (if s.le.station = .fallback ∨ 1 ≤ s.channelCount then
    [3, 6, BitVec.ofNat 8 s.channelCount] ++ be16 s.yieldE ++ [s.ch.statesByte, s.ch.openByte, s.protection.code]
   else []) ++
  (if s.le.station.regulates then
    (match s.cfg.distanceB with
      | some d => [4, 4] ++ be16 s.cfg.distanceA ++ be16 d
      | none => [4, 2] ++ be16 s.cfg.distanceA)
   else []) ++
  [5, 6] ++ be16 s.lc.lineResets ++ be16 s.lc.collisionDrops ++ be16 s.lc.crcErrors

/-! ### What placing a content does to the line controller (R157, R158) -/

/-- The line controller after a content has been placed in slot `k` at the instant `now` (R157, R158): the slot holds it, with an
attempt count of 0 where it was empty and its old count otherwise; an attempt under way goes on and notes a filling of its own
slot; with none under way an attempt starts where the line is idle, for the first occupied slot. Nothing else changes. -/
def SlotFilled (before after : LineControl) (p : LineParams) (now : Time) (k : SlotId) (c : Content) : Prop :=
  (after.slots.get k).content = some c ∧
    (after.slots.get k).attempts = (if (before.slots.get k).content = none then 0 else (before.slots.get k).attempts) ∧
    (∀ j, j ≠ k → after.slots.get j = before.slots.get j) ∧
    (∀ a, before.attempt = some a →
      after.attempt = some { a with refilled := a.refilled || decide (a.slot = k) }) ∧
    (before.attempt = none → before.idle = false → after.attempt = none) ∧
    (before.attempt = none → before.idle = true → ∃ j d, after.slots.firstOccupied = some (j, d) ∧
      after.attempt = some { slot := j, content := d, refilled := false,
                             phase := .waiting (now + (p.address.toNat % 8 + 8 * (after.slots.get j).attempts) * p.rate.charTime) }) ∧
    after = { before with slots := after.slots, attempt := after.attempt }

/-- The place of a slot in the order in which slots are attempted: OVERRIDE, PORTAL, LEVEL, IDENT (R158). -/
def SlotId.rank : SlotId → Nat
  | .override => 0 | .portal => 1 | .level => 2 | .ident => 3

/-- The line controller after a whole valid frame has been heard while not sending (R150, R158, R161): the line busy from now, a
running access wait abandoned, nothing assembled, and ACT lit where it was dark. -/
def State.lineAfterFrame (s : State) : LineControl :=
  { s.lc with
    idle := false, lastChar := s.now, attempt := none, assembly := [],
    act := match s.lc.act with
      | .dark => .lit (s.now + 800000)
      | .lit due => .lit due
      | .guarding due => .guarding due }

/-- The line controller after characters that gave no valid frame, while not sending (R150, R158). -/
def State.lineAfterNoise (s : State) : LineControl :=
  { s.lc with idle := false, lastChar := s.now, attempt := none, assembly := [] }

/-- Every block at the values its chapter's reset table gives (R19, R40, R52, R54, R81, R100, R117, R137, R146, R148, R162, R170), written
out. `started`: the reset has ended, so the update, PWM and (where the pin reads closed) debounce timers and the record read
run; otherwise they are stopped (R174). -/
def State.atResetValues (s : State) (lockDown : Bool) (resets drops errors : Nat) (started : Bool) : State :=
  let off : Channel :=
    { state := .off, command := 0, applied := 0, openMark := false, openTimer := none, tripped := 0, history := [],
      retryTimer := none, cut := false, pulseStart := 0 }
  let side : SideRecord :=
    { status := none, lastAggregate := none, everValid := false, validAt := 0, luminance := none, lost := false }
  let vacant : Slot := { content := none, attempts := 0 }
  { s with
    cl := { readDue := if started then some (s.now + 15840) else none, record := none, fallback := none, configFault := false },
    pfe := { gain := .g16, sampleTimer := none, window := [], reading := none, readingGain := .g16, saturated := false,
             sensorFault := false, recoveryTimer := none, reportTimer := none, tag := 0, lastReported := 0,
             placedAt := s.now, restartPending := true },
    pt := { entries := [], neighbourLost := false },
    pa := { a := side, b := side },
    dc := { trim := 1000, lockDown := lockDown, pendingTrim := none, ratioA := none, ratioB := none, target := none,
            required := none, term := none, capacityPart := false },
    le := { station := .configuring, level := 10000, target := 10000, suspended := false, reportedTerm := none,
            reportedTarget := none, delivered := 0, updateTimer := if started then some (s.now + 2000000) else none,
            listeningTimer := none, placedAt := s.now, firstUpdate := true, lastReported := 0, tag := 0,
            restartPending := true },
    ol := { entries := [], contactClosed := false,
            debounceTimer := if started && s.fullinClosed then some (s.now + 600000) else none, propagationTimer := none },
    ch := { c0 := off, c1 := off, c2 := off, c3 := off, held := none, delivered := 0, capacityPart := false,
            latchedCondition := false, openCondition := false, pwmTimer := if started then some (s.now + 10000) else none },
    lc := { assembly := [], slots := { override := vacant, portal := vacant, level := vacant, ident := vacant },
            attempt := none, idle := false, lastChar := s.now, guardTimer := none, act := .dark, params := none,
            lineResets := resets, collisionDrops := drops, crcErrors := errors },
    fr := { flags := 0, mask := BitVec.allOnes 13, alarm := false } }

/-- An unpowered part whose blocks hold their power-on values since some instant, with every timer stopped (log 10, DESIGN CHOICE). -/
def State.HeldUnpowered (s : State) : Prop :=
  s.powered = false ∧
    ∃ since, s = { ({ s with now := since } : State).atResetValues false 0 0 0 false with now := s.now }

/-- Every output pin is low (log 10 for an unpowered part). -/
def State.OutputsLow (s : State) : Prop :=
  (∀ k, s.gateDrive k = false) ∧ s.zde = false ∧ s.ztx = false ∧ s.alarmPin = false ∧ s.actPin = false ∧ s.csn = false ∧
    s.sdoByte = none

end Sys2Proof.Machine
end

