-- ==== Sys2Proof/Certificates/Slice0/Obligations.lean ====
section
/-! DEFINITION. The statements for the provers. Times are in units of 0.05 µs: 20000 of them are 1 ms. -/

open Sys2Proof Sys2Proof.Machine

/-! ### Steps and commands -/

/-- A step takes the command at the front of the queue and runs it on the state with the queue's rest; on an empty queue one unit
of the clock passes (the model's choice, log 3). -/
def Obligations.StepTakesQueueInOrder : Prop :=
  (∀ (c : Instr) (rest : List Instr) (s : State), s.pending = c :: rest → step s = exec c { s with pending := rest }) ∧
  (∀ s : State, s.pending = [] → step s = .next { s with now := s.now + 1 })

/-- Every command answers a next state in every state; it leaves the queue alone and never turns the clock back.
The queue and the clock are the model's (log 1, log 3). -/
def Obligations.EveryCommandCompletes : Prop :=
  ∀ (c : Instr) (s : State), ∃ t, exec c s = .next t ∧ t.pending = s.pending ∧ s.now ≤ t.now

/-! ### Supply, RSTN and RESET -/

/-- R170, R174 with the reset tables: POWER_UP with RSTN high gives every block its power-on values and starts the timers and the read;
with RSTN low every block is held at them. While the read runs CSN is low, and SDO carries 0x03 and the address 0x0000 in its first
three byte times of 8 µs; a powered part without a read holds CSN high.
The trim value before the read is the model's choice (log 11), as is that nothing is given for SDO after those bytes (log 23). -/
def Obligations.PowerUpTakesPowerOnReset : Prop :=
  ∀ s : State,
    (s.rstnLow = false → exec .powerUp s = .next (({ s with powered := true } : State).atResetValues false 0 0 0 true)) ∧
    (s.rstnLow = true → exec .powerUp s = .next (({ s with powered := true } : State).atResetValues false 0 0 0 false)) ∧
    (s.powered = true → s.cl.readDue = none → s.csn = true ∧ s.sdoByte = none) ∧
    (∀ due, s.powered = true → s.cl.readDue = some due →
      s.csn = false ∧
      (∀ (i : Nat) b, ([0x03, 0x00, 0x00] : List Byte)[i]? = some b →
        due + 160 * i ≤ s.now + 15840 → s.now + 15840 < due + 160 * (i + 1) → s.sdoByte = some b) ∧
      (due + 480 ≤ s.now + 15840 → s.sdoByte = none))

/-- R174: RSTN low holds every block at its power-on values with the timers stopped; its return high on a powered part ends the
reset. A release while RSTN is high changes nothing, and on an unpowered part it changes the pin alone.
The trim value before the read is the model's choice (log 11), what the two edges do besides is deduced (log 28), and what an
unpowered part does is log 10. -/
def Obligations.RstnHoldsAndReleases : Prop :=
  ∀ s : State,
    exec .rstnAssert s = .next (({ s with rstnLow := true } : State).atResetValues false 0 0 0 false) ∧
    (s.powered = true → s.rstnLow = true →
      exec .rstnRelease s = .next (({ s with rstnLow := false } : State).atResetValues false 0 0 0 true)) ∧
    (s.rstnLow = false → exec .rstnRelease s = .next s) ∧
    (s.powered = false → s.rstnLow = true → exec .rstnRelease s = .next { s with rstnLow := false })

/-- R156, R175: a RESET taken counts a line reset and gives every block its reset values; the trim lock-down and the line counters
are kept.
The trim value before the read is the model's choice (log 11). -/
def Obligations.ResetFrameTakesLineReset : Prop :=
  ∀ (s : State) (f : Frame), s.Takes .reset 0 f →
    exec (.resetFrame f) s =
      .next (s.atResetValues s.dc.lockDown (min (s.lc.lineResets + 1) 255) s.lc.collisionDrops s.lc.crcErrors true)

/-- R174, log 10: POWER_LOSS leaves an unpowered part whose blocks hold their power-on values with every timer stopped. Such a part has
every output low, and it stays such a part under every command but POWER_UP and under every step that does not take one.
R174 speaks of the supply rising and of RSTN low: the outputs and the values without supply are the model's choice (log 10). -/
def Obligations.PowerLossTakesOutputsLow : Prop :=
  ∀ s : State,
    (exec .powerLoss s = .next (({ s with powered := false } : State).atResetValues false 0 0 0 false)) ∧
    (({ s with powered := false } : State).atResetValues false 0 0 0 false).HeldUnpowered ∧
    (s.HeldUnpowered →
      s.OutputsLow ∧
      (∀ c t, c ≠ .powerUp → exec c s = .next t → t.HeldUnpowered) ∧
      (∀ t, s.pending.head? ≠ some .powerUp → step s = .next t → t.HeldUnpowered))

/-! ### The configuration record -/

/-- R91, R119, R170 to R173: the completion of a good record. The station enters LISTENING at full output with the configured
channels DRIVING, their commands and open timers as R121 to R124 and R132 give them, the LISTENING timer at twice the stale time,
the record's mask in force, CONFIG_FAULT exactly where a correction was made, and the IDENT slot filled to broadcast with the chain
of R168. The PWM period timer runs on (R120).
Where the clock stands is the model's choice (log 2). -/
def Obligations.GoodRecordEntersListening : Prop :=
  ∀ (s : State) (image : List Byte) (due : Time),
    s.cl.readDue = some due → s.le.station = .configuring → image.length = 96 → structuralFailure image = false →
    (∀ k, (s.ch.get k).state = .off) →
    ∃ t, exec (.configReadComplete image) s = .next t ∧
      t.now = max s.now due ∧
      t.cl = { readDue := none, record := some (correctedRecord image), fallback := none, configFault := needsCorrection image } ∧
      t.le = { s.le with station := .listening, level := 10000, target := 10000,
                         listeningTimer := some (max s.now due + 40000 * (correctedRecord image).staleTime) } ∧
      t.ch.held = some 10000 ∧
      (∀ k, channelNumber k < (correctedRecord image).channelCount →
        (t.ch.get k).state = .driving ∧ (t.ch.get k).command = 10000 ∧ (t.ch.get k).history = [] ∧
          (t.ch.get k).openTimer = some (max s.now due + 40000000)) ∧
      (∀ k, (correctedRecord image).channelCount ≤ channelNumber k → (t.ch.get k).state = .off ∧ (t.ch.get k).command = 0) ∧
      t.lc.params = some { address := byteAt image 0, mask := byteAt image 1, rate := (correctedRecord image).rate } ∧
      t.lc.idle = false ∧ t.lc.lastChar = max s.now due ∧
      t.ChannelsComputed (fun _ => none) ∧
      t.lc.slots.ident.content = some { dest := 255, kind := .ident, tag := 0, payload := t.chainOfR168 } ∧
      t.fr.mask = BitVec.ofNat 13 (fieldAt image 89) ∧
      (t.fr.isSet .configFault = true ↔ needsCorrection image = true ∨ s.fr.isSet .configFault = true) ∧
      t.ch.pwmTimer = s.ch.pwmTimer ∧ t.ol = s.ol ∧ t.pa = s.pa

/-- R2, R14, R26, R54, R61: what else starts at the entry to LISTENING: the reserved entries, the station ratios, the trim default,
and for a photometer station the sample and report timers. PHIN outside its band then begins SENSOR_FAULT at once (R146); nothing is
placed for it, since P/4 has not passed.
Where the clock stands is the model's choice (log 2); that SENSOR_FAULT begins at the entry itself is deduced (log 14), as is that
the reading gain keeps its value then (log 13). -/
def Obligations.EntryToListeningStartsBlocks : Prop :=
  ∀ (s : State) (image : List Byte) (due : Time),
    s.cl.readDue = some due → s.le.station = .configuring → image.length = 96 → structuralFailure image = false →
    ∃ t, exec (.configReadComplete image) s = .next t ∧
      (∀ e, e ∈ t.pt.entries ↔ ∃ a ∈ (correctedRecord image).neighbours,
        e = { addr := a, reserved := true, side := none, luminaire := false, heardAt := max s.now due, agedOut := false,
              portal := none, level := none }) ∧
      t.dc.trim = (correctedRecord image).trimDefault ∧ t.dc.lockDown = s.dc.lockDown ∧
      t.dc.ratioA = some (stationRatio (correctedRecord image).profile (correctedRecord image).distanceA) ∧
      t.dc.ratioB = (correctedRecord image).distanceB.map (stationRatio (correctedRecord image).profile) ∧
      (let started : Photometer :=
         { s.pfe with sampleTimer := some (max s.now due + 20000 * (correctedRecord image).samplePeriod),
                      reportTimer := some (max s.now due + 20000 * (correctedRecord image).reportPeriod),
                      placedAt := max s.now due }
       ((correctedRecord image).side ≠ none → s.phinInBand = true → t.pfe = started) ∧
       ((correctedRecord image).side ≠ none → s.phinInBand = false →
         t.pfe = { started with window := [], reading := none, saturated := false, sensorFault := true } ∧
         t.fr.isSet .sensorFault = true)) ∧
      ((correctedRecord image).side = none → t.pfe = s.pfe)

/-- R26, R172: the corrected record, field by field. A numeric field is clamped to the nearer limit of its range; an enumerated field
whose code names nothing takes its default; a lost time not above the stale time is raised to twice it; the neighbours are those
present, able to name a peer, and distinct; mask, marks, profile, alarm mask and address are as written. A correction is needed
exactly where one of these changes something, and a record that needs none is taken as written in every field. -/
def Obligations.LoadedRecordWithinRanges : Prop :=
  ∀ p : List Byte,
    (let r := correctedRecord p
     let near (lo hi v : Nat) : Nat := if v < lo then lo else if hi < v then hi else v
     let mark (n : Nat) : Bool := (byteAt p 13).getLsbD n
     let stale := near 500 10000 (fieldAt p 74)
     let lost := near 2000 60000 (fieldAt p 76)
     let names (a : Byte) : Prop := (mark 0 = true ∧ a = byteAt p 14) ∨ (mark 1 = true ∧ a = byteAt p 15)
     (r.fullScale = near 2000 20000 (fieldAt p 4) ∧ r.channelCount = near 0 4 (byteAt p 6).toNat ∧
      r.yield = near 10 2000 (fieldAt p 7) ∧ r.distanceA = near 0 2000 (fieldAt p 9) ∧
      r.distanceB = (if mark 2 then some (near 0 2000 (fieldAt p 11)) else none) ∧
      r.thresholdRatio = near 30 100 (byteAt p 65).toNat ∧ r.trimDefault = near 800 1200 (fieldAt p 66) ∧
      r.stepRatio = near 15 50 (byteAt p 68).toNat ∧ r.interior = near 1 50 (byteAt p 69).toNat ∧
      r.defaultLuminance = near 1000 16000 (fieldAt p 70) ∧ r.holdTime = near 5 300 (fieldAt p 72) ∧
      r.staleTime = stale ∧ r.lostTime = (if lost ≤ stale then 2 * stale else lost) ∧
      r.reportPeriod = near 250 2000 (fieldAt p 78) ∧ r.samplePeriod = near 100 1000 (fieldAt p 80) ∧
      r.riseLimit = near 100 10000 (fieldAt p 82) ∧ r.fallLimit = near 1 1000 (fieldAt p 84) ∧
      r.retryTime = near 1 60 (byteAt p 88).toNat) ∧
     r.staleTime < r.lostTime ∧
     (r.rate = .high ↔ byteAt p 2 = 1) ∧
     (r.side = some .a ↔ byteAt p 3 = 1) ∧ (r.side = some .b ↔ byteAt p 3 = 2) ∧
     (r.mode = .period ↔ byteAt p 86 = 1) ∧ (r.mode = .latch ↔ byteAt p 86 = 3) ∧
     (r.filter = .zero ↔ byteAt p 87 = 0) ∧ (r.filter = .half ↔ byteAt p 87 = 1) ∧ (r.filter = .two ↔ byteAt p 87 = 3) ∧
     r.address = byteAt p 0 ∧ r.mask = byteAt p 1 ∧ r.trimPermitted = mark 3 ∧ r.propagate = mark 4 ∧
     r.alarmMask = BitVec.ofNat 13 (fieldAt p 89) ∧
     r.group = (if mark 4 = true ∧ byteAt p 91 = 0 then 1 else byteAt p 91) ∧
     r.profile.length = (byteAt p 16).toNat ∧
     (∀ i < (byteAt p 16).toNat, r.profile[i]? = some { distance := fieldAt p (17 + 4 * i), ratio := fieldAt p (19 + 4 * i) }) ∧
     r.neighbours.Nodup ∧
     (∀ a, a ∈ r.neighbours ↔ names a ∧ a ≠ 0 ∧ a ≠ 255 ∧ a ≠ byteAt p 0) ∧
     (needsCorrection p = false ↔
       (r.fullScale = fieldAt p 4 ∧ r.channelCount = (byteAt p 6).toNat ∧ r.yield = fieldAt p 7 ∧ r.distanceA = fieldAt p 9 ∧
        r.distanceB = (if mark 2 then some (fieldAt p 11) else none) ∧
        r.thresholdRatio = (byteAt p 65).toNat ∧ r.trimDefault = fieldAt p 66 ∧ r.stepRatio = (byteAt p 68).toNat ∧
        r.interior = (byteAt p 69).toNat ∧ r.defaultLuminance = fieldAt p 70 ∧ r.holdTime = fieldAt p 72 ∧
        r.staleTime = fieldAt p 74 ∧ r.lostTime = fieldAt p 76 ∧ r.reportPeriod = fieldAt p 78 ∧
        r.samplePeriod = fieldAt p 80 ∧ r.riseLimit = fieldAt p 82 ∧ r.fallLimit = fieldAt p 84 ∧
        r.retryTime = (byteAt p 88).toNat ∧ r.group = byteAt p 91) ∧
       byteAt p 2 = (match r.rate with | .low => 0 | .high => 1) ∧
       byteAt p 3 = (match r.side with | none => 0 | some .a => 1 | some .b => 2) ∧
       byteAt p 86 = (match r.mode with | .period => 1 | .retry => 2 | .latch => 3) ∧
       byteAt p 87 = (match r.filter with | .zero => 0 | .half => 1 | .one => 2 | .two => 3) ∧
       r.neighbours = (if mark 0 then [byteAt p 14] else []) ++ (if mark 1 then [byteAt p 15] else [])))

/-- R60, R94, R119, R144, R162, R171, R173: a read has a structural failure exactly when the memory gave no response (all bytes 0xFF or all
0x00), the CRC over bytes 0 to 93 differs from bytes 94 and 95, the address is 0 or 255, or the profile up to its count is not usable:
a count outside 2 to 12, a first distance other than 0, a distance not beyond the one before or beyond 2000 m, a ratio above 1000 or
above the one before. A structural failure sends the station to FALLBACK: full output on all four channels, the address
byte or 254 as S, M 0xFF, the default mask, CONFIG_FAULT and ALARM, the line
taken as busy from the moment of entry. The PWM period timer runs on (R120).
Where the clock stands is the model's choice (log 2). -/
def Obligations.StructuralFailureEntersFallback : Prop :=
  (∀ p : List Byte, noResponse p = true ↔ (∀ b ∈ p, b = 0xFF) ∨ (∀ b ∈ p, b = 0x00)) ∧
  (∀ profile : List Breakpoint, profileUsable profile = true ↔
    2 ≤ profile.length ∧ profile.length ≤ 12 ∧ (∃ b, profile[0]? = some b ∧ b.distance = 0) ∧
      (∀ (i : Nat) b c, profile[i]? = some b → profile[i + 1]? = some c →
        b.distance < c.distance ∧ c.distance ≤ 2000 ∧ c.ratio ≤ b.ratio) ∧
      ∀ b ∈ profile, b.ratio ≤ 1000) ∧
  (∀ p : List Byte, structuralFailure p = true ↔
    (let count := (byteAt p 16).toNat
     let distance (i : Nat) : Nat := fieldAt p (17 + 4 * i)
     let ratio (i : Nat) : Nat := fieldAt p (19 + 4 * i)
     (∀ b ∈ p, b = 0xFF) ∨ (∀ b ∈ p, b = 0x00) ∨ (crc16 (p.take 94)).toNat ≠ fieldAt p 94 ∨ byteAt p 0 = 0 ∨ byteAt p 0 = 255 ∨
       count < 2 ∨ 12 < count ∨ distance 0 ≠ 0 ∨
       (∃ i, i + 1 < count ∧ (distance (i + 1) ≤ distance i ∨ 2000 < distance (i + 1) ∨ ratio i < ratio (i + 1))) ∨
       ∃ i < count, 1000 < ratio i)) ∧
  ∀ (s : State) (image : List Byte) (due : Time),
    s.cl.readDue = some due → s.le.station = .configuring → image.length = 96 → structuralFailure image = true →
    ∃ t, exec (.configReadComplete image) s = .next t ∧
      t.le = { s.le with station := .fallback, level := 10000, target := 10000 } ∧
      t.cl.record = none ∧ t.cl.readDue = none ∧ t.cl.configFault = true ∧
      t.lc.params = some { address := if noResponse image = true ∨ byteAt image 0 = 0 ∨ byteAt image 0 = 255 then 254 else byteAt image 0,
                           mask := 255, rate := if byteAt image 2 = 1 then .high else .low } ∧
      t.lc.idle = false ∧ t.lc.lastChar = max s.now due ∧
      (noResponse image = true → t.cl.fallback = some { reportPeriod := 500, yield := 10 } ∧ t.dc.trim = 1000) ∧
      (noResponse image = false →
        t.cl.fallback = some { reportPeriod := max 250 (min (fieldAt image 78) 2000), yield := max 10 (min (fieldAt image 7) 2000) } ∧
        t.dc.trim = max 800 (min (fieldAt image 66) 1200)) ∧
      (∀ k, (t.ch.get k).state = .driving ∧ (t.ch.get k).command = 10000 ∧ (t.ch.get k).openTimer = none) ∧
      t.ch.held = some 10000 ∧ t.ch.delivered = 10000 ∧ t.ChannelsComputed (fun _ => none) ∧
      t.ch.pwmTimer = s.ch.pwmTimer ∧
      t.fr.mask = BitVec.allOnes 13 ∧ t.fr.isSet .configFault = true ∧ t.fr.alarm = true ∧
      t.pt = s.pt ∧ t.pa = s.pa ∧ t.ol = s.ol ∧ t.pfe = s.pfe

/-! ### The photometer front end -/

/-- R2, R4, R5: a count of 3968 or more at a gain above 1 is discarded: the gain halves, the window empties, the reading is held with
its gain and mark, and the sample timer restarts. While SENSOR_FAULT is present the sample instant only restarts the timer.
Where the clock stands is the model's choice (log 2). -/
def Obligations.HighCountDiscarded : Prop :=
  ∀ (s : State) (count : BitVec 12) (due : Time), s.pfe.sampleTimer = some due →
    (s.pfe.sensorFault = false → 3968 ≤ count.toNat → s.pfe.gain ≠ .g1 →
      exec (.sampleInstant count) s = .next { s with
        now := max s.now due,
        pfe := { s.pfe with sampleTimer := some (max s.now due + 20000 * s.cfg.samplePeriod),
                            gain := s.pfe.gain.halve, window := [] } }) ∧
    (s.pfe.sensorFault = true →
      exec (.sampleInstant count) s = .next { s with
        now := max s.now due,
        pfe := { s.pfe with sampleTimer := some (max s.now due + 20000 * s.cfg.samplePeriod) } })

/-- R2, R3, R4, R6, R7, R8: a kept count is converted and joins the window, and the reading is the mean, the median or the single
sample; a low count then doubles the gain and empties the window. Only the front end, the PORTAL slot and the clock change.
Where the clock stands is the model's choice (log 2). -/
def Obligations.KeptSampleFormsReading : Prop :=
  ∀ (s : State) (count : BitVec 12) (due : Time),
    s.pfe.sampleTimer = some due → s.pfe.sensorFault = false → s.pfe.window.length ≤ 3 →
    (count.toNat < 3968 ∨ s.pfe.gain = .g1) →
    ∃ t, exec (.sampleInstant count) s = .next t ∧
      (let l := min ((count.toNat * s.cfg.fullScale + s.pfe.gain.value * 2048) / (s.pfe.gain.value * 4096)) 16000
       let x : Sample := { luminance := l, saturated := decide (3968 ≤ count.toNat), gain := s.pfe.gain }
       let window := (s.pfe.window ++ [x]).drop (s.pfe.window.length - 2)
       let low := count.toNat < 1024 ∧ s.pfe.gain ≠ .g16
       t.pfe.window = (if low then [] else window) ∧
       t.pfe.gain = (if low then s.pfe.gain.double else s.pfe.gain) ∧
       t.pfe.readingGain = s.pfe.gain ∧
       t.pfe.saturated = window.any Sample.saturated ∧
       (window = [x] → t.pfe.reading = some l) ∧
       (∀ y, window = [y, x] → t.pfe.reading = some ((y.luminance + l) / 2)) ∧
       (∀ y z, window = [y, z, x] → ∃ m, t.pfe.reading = some m ∧ m ∈ window.map Sample.luminance ∧
         2 ≤ (window.filter fun w => w.luminance ≤ m).length ∧ 2 ≤ (window.filter fun w => m ≤ w.luminance).length)) ∧
      t.pfe.sampleTimer = some (max s.now due + 20000 * s.cfg.samplePeriod) ∧
      t.pfe.sensorFault = false ∧ t.pfe.recoveryTimer = s.pfe.recoveryTimer ∧
      t = { s with now := max s.now due, pfe := t.pfe, lc := t.lc }

/-- R15, R16, R17: after a kept sample a PORTAL content is placed exactly when the reading has moved by at least one eighth of the last
reported luminance, by at least 1, and P/4 has passed; the content carries the next tag and the marks.
Where the clock stands is the model's choice (log 2). -/
def Obligations.EarlyPortalReport : Prop :=
  ∀ (s : State) (count : BitVec 12) (due : Time) (side : Side),
    s.pfe.sampleTimer = some due → s.pfe.sensorFault = false → s.cfg.side = some side →
    (count.toNat < 3968 ∨ s.pfe.gain = .g1) →
    ∃ t l, exec (.sampleInstant count) s = .next t ∧ t.pfe.reading = some l ∧
      (if 1 ≤ (l - s.pfe.lastReported) + (s.pfe.lastReported - l) ∧
          s.pfe.lastReported ≤ 8 * ((l - s.pfe.lastReported) + (s.pfe.lastReported - l)) ∧
          20000 * s.reportPeriod ≤ 4 * (max s.now due - s.pfe.placedAt)
       then
         SlotFilled s.lc t.lc s.line (max s.now due) .portal
           { dest := 255, kind := .portal, tag := s.pfe.tag,
             payload := [side.code, hiByte l, loByte l, BitVec.ofNat 8 s.pfe.gain.value,
                         markBit 0 t.pfe.saturated ||| markBit 7 s.pfe.restartPending] } ∧
         t.pfe.tag = s.pfe.tag + 1 ∧ t.pfe.lastReported = l ∧ t.pfe.placedAt = max s.now due ∧
         t.pfe.reportTimer = some (max s.now due + 20000 * s.reportPeriod)
       else
         t.lc = s.lc ∧ t.pfe.tag = s.pfe.tag ∧ t.pfe.lastReported = s.pfe.lastReported ∧ t.pfe.placedAt = s.pfe.placedAt ∧
         t.pfe.reportTimer = s.pfe.reportTimer)

/-- R10, R13, R15, R16: PHIN leaving the band begins SENSOR_FAULT: the window empties, the reading becomes invalid, the mark clears, the
flag is set, the gain is kept, and where the reading of 0 has moved from the last reported one and P/4 has passed a PORTAL content
is placed with luminance 0 and the SENSOR_FAULT mark. Where the fault is present already, only the recovery timer stops. While the
front end is off only the pin changes.
That the reading gain keeps its value when SENSOR_FAULT begins is deduced (log 13). -/
def Obligations.PhinLeavingBandBeginsSensorFault : Prop :=
  ∀ s : State,
    (∀ side, s.le.station.regulates = true → s.cfg.side = some side →
      (s.pfe.sensorFault = false →
        ∃ t, exec .phinLeavesBand s = .next t ∧ t.fr.flags = s.fr.flags ||| Flag.sensorFault.bit ∧
          t.fr.mask = s.fr.mask ∧
          (let faulted : Photometer := { s.pfe with window := [], reading := none, saturated := false, sensorFault := true }
           if 1 ≤ s.pfe.lastReported ∧ 20000 * s.reportPeriod ≤ 4 * (s.now - s.pfe.placedAt) then
             SlotFilled s.lc t.lc s.line s.now .portal
               { dest := 255, kind := .portal, tag := s.pfe.tag,
                 payload := [side.code, 0, 0, BitVec.ofNat 8 s.pfe.gain.value, markBit 1 true ||| markBit 7 s.pfe.restartPending] } ∧
             t.pfe = { faulted with tag := s.pfe.tag + 1, lastReported := 0, placedAt := s.now,
                                    reportTimer := some (s.now + 20000 * s.reportPeriod) }
           else t.lc = s.lc ∧ t.pfe = faulted) ∧
          t = { s with phinInBand := false, pfe := t.pfe, fr := t.fr, lc := t.lc }) ∧
      (s.pfe.sensorFault = true →
        exec .phinLeavesBand s = .next { s with phinInBand := false, pfe := { s.pfe with recoveryTimer := none } })) ∧
    (s.le.station.regulates = false ∨ s.cfg.side = none → exec .phinLeavesBand s = .next { s with phinInBand := false })

/-- R10, R11: the return of PHIN into its band starts the recovery timer with 1 s while SENSOR_FAULT is present, and is only followed
otherwise; a command that gives no return changes nothing (log 27). The timer's expiry ends SENSOR_FAULT; the flag stays.
Where the clock stands is the model's choice (log 2). -/
def Obligations.RecoveryEndsSensorFault : Prop :=
  (∀ s : State,
    (s.phinInBand = false → s.pfeOn = true → s.pfe.sensorFault = true →
      exec .phinReturnsToBand s = .next { s with phinInBand := true, pfe := { s.pfe with recoveryTimer := some (s.now + 20000000) } }) ∧
    (s.phinInBand = false → s.pfeOn = false ∨ s.pfe.sensorFault = false →
      exec .phinReturnsToBand s = .next { s with phinInBand := true }) ∧
    (s.phinInBand = true → exec .phinReturnsToBand s = .next s)) ∧
  (∀ (s : State) (due : Time), s.pfe.recoveryTimer = some due →
    exec .recoveryTimerExpiry s =
      .next { s with now := max s.now due, pfe := { s.pfe with sensorFault := false, recoveryTimer := none } })

/-- R14, R16, R17: at the report timer's expiry a PORTAL content is placed where there is something to say, and the timer restarts
with P in either case.
Where the clock stands is the model's choice (log 2). -/
def Obligations.PortalReportTimerPlaces : Prop :=
  ∀ (s : State) (due : Time) (side : Side), s.pfe.reportTimer = some due → s.cfg.side = some side →
    ∃ t, exec .portalReportTimerExpiry s = .next t ∧
      t.pfe.reportTimer = some (max s.now due + 20000 * s.reportPeriod) ∧
      t = { s with now := max s.now due, pfe := t.pfe, lc := t.lc } ∧
      (∀ l, s.pfe.reading = some l → s.pfe.sensorFault = false →
        SlotFilled s.lc t.lc s.line (max s.now due) .portal
          { dest := 255, kind := .portal, tag := s.pfe.tag,
            payload := [side.code, hiByte l, loByte l, BitVec.ofNat 8 s.pfe.readingGain.value,
                        markBit 0 s.pfe.saturated ||| markBit 7 s.pfe.restartPending] } ∧
        t.pfe = { s.pfe with tag := s.pfe.tag + 1, lastReported := l, placedAt := max s.now due,
                             reportTimer := t.pfe.reportTimer }) ∧
      (s.pfe.sensorFault = true →
        SlotFilled s.lc t.lc s.line (max s.now due) .portal
          { dest := 255, kind := .portal, tag := s.pfe.tag,
            payload := [side.code, 0, 0, BitVec.ofNat 8 s.pfe.gain.value, markBit 1 true ||| markBit 7 s.pfe.restartPending] } ∧
        t.pfe = { s.pfe with tag := s.pfe.tag + 1, lastReported := 0, placedAt := max s.now due,
                             reportTimer := t.pfe.reportTimer }) ∧
      (s.pfe.reading = none → s.pfe.sensorFault = false →
        t.lc = s.lc ∧ t.pfe = { s.pfe with reportTimer := t.pfe.reportTimer })

/-! ### The peer table -/

/-- R24, R27, R31, R34, R38: a LEVEL report that is no duplicate enters the level part of its source's entry, found or new, with the
delivered luminance clamped to 2000; ages restart and the luminaire mark follows the channel count. NEIGHBOUR_LOST is examined
again for a reserved entry, and no other flag is raised.
That PART_STALE decides at the very instant of the stale time is log 29. -/
def Obligations.LevelFrameTaken : Prop :=
  ∀ (s : State) (f : Frame) (e : Entry),
    s.Takes .level 11 f → s.le.station.regulates = true → f.src ≠ 255 → s.EntryFor f.src e →
    (∀ l, e.level = some l → ¬(f.tag = l.tag ∧ ((byteAt f.payload 6).getLsbD 7 = false ∨ l.restart = true))) →
    ∃ t, exec (.levelFrame f) s = .next t ∧
      findEntry t.pt.entries f.src =
        some { e with level := some { delivered := min (fieldAt f.payload 0) 2000, restart := (byteAt f.payload 6).getLsbD 7,
                                      tag := f.tag, takenAt := s.now, aged := .fresh },
                      heardAt := s.now, agedOut := false, luminaire := decide (1 ≤ (byteAt f.payload 8).toNat / 16) } ∧
      (∀ a, a ≠ f.src → findEntry t.pt.entries a = findEntry s.pt.entries a) ∧
      t.lc = s.lineAfterFrame ∧
      (e.reserved = false → t.pt.neighbourLost = s.pt.neighbourLost ∧ t.fr = s.fr) ∧
      (e.reserved = true → (t.pt.neighbourLost = true ↔ s.le.station = .running ∧ t.NeighbourMissing) ∧
        (t.pt.neighbourLost = true → t.fr.isSet .neighbourLost = true) ∧ t.RaisesOnly s [.neighbourLost]) ∧
      t = { s with pt := t.pt, lc := t.lc, fr := t.fr }

/-- R23, R28, R31, R34: a PORTAL report of side A or B that is no duplicate enters the portal part of its source's entry, with the
luminance clamped to 16000; it does not touch NEIGHBOUR_LOST. A report of another side is discarded. -/
def Obligations.PortalFrameTaken : Prop :=
  ∀ (s : State) (f : Frame), s.Takes .portal 5 f → s.le.station.regulates = true → f.src ≠ 255 →
    (∀ (e : Entry) (side : Side), s.EntryFor f.src e → byteAt f.payload 0 = side.code →
      (∀ p, e.portal = some p → ¬(f.tag = p.tag ∧ ((byteAt f.payload 4).getLsbD 7 = false ∨ p.restart = true))) →
      ∃ t, exec (.portalFrame f) s = .next t ∧
        findEntry t.pt.entries f.src =
          some { e with portal := some { side := side, luminance := min (fieldAt f.payload 1) 16000,
                                         sensorFault := (byteAt f.payload 4).getLsbD 1,
                                         restart := (byteAt f.payload 4).getLsbD 7, tag := f.tag, takenAt := s.now,
                                         aged := .fresh },
                        heardAt := s.now, agedOut := false, side := some side } ∧
        (∀ a, a ≠ f.src → findEntry t.pt.entries a = findEntry s.pt.entries a) ∧
        t = { s with pt := { t.pt with neighbourLost := s.pt.neighbourLost }, lc := s.lineAfterFrame }) ∧
    (byteAt f.payload 0 ≠ 1 → byteAt f.payload 0 ≠ 2 →
      exec (.portalFrame f) s = .next { s with lc := s.lineAfterFrame })

/-- R29, R31, R34, R169: an IDENT restarts the entry age and replaces the role of its source's entry, found or new; it touches no
part. -/
def Obligations.IdentFrameTaken : Prop :=
  ∀ (s : State) (f : Frame) (e : Entry), f.payload.length ≤ 48 → 4 ≤ f.payload.length →
    s.Takes .ident f.payload.length f → s.le.station.regulates = true → f.src ≠ 255 → s.EntryFor f.src e →
    ∃ t, exec (.identFrame f) s = .next t ∧
      findEntry t.pt.entries f.src =
        some { e with heardAt := s.now, agedOut := false, side := (readRole f.payload).1, luminaire := (readRole f.payload).2 } ∧
      (∀ a, a ≠ f.src → findEntry t.pt.entries a = findEntry s.pt.entries a) ∧
      t = { s with pt := { t.pt with neighbourLost := s.pt.neighbourLost }, lc := s.lineAfterFrame }

/-- R25, R30 and section 10.1: the reports that are taken from the line and change nothing in the table. A LEVEL or PORTAL report is a
duplicate when its tag equals that of the part held and it carries no RESTART mark or the part carries one too. A LEVEL, PORTAL or
IDENT frame from source 255 makes no entry, and in FALLBACK none is taken. -/
def Obligations.DuplicateReportDiscarded : Prop :=
  ∀ (s : State) (f : Frame),
    (∀ e, s.le.station.regulates = true → findEntry s.pt.entries f.src = some e →
      (∀ l, s.Takes .level 11 f → e.level = some l → f.tag = l.tag →
        ((byteAt f.payload 6).getLsbD 7 = false ∨ l.restart = true) →
        exec (.levelFrame f) s = .next { s with lc := s.lineAfterFrame }) ∧
      (∀ p, s.Takes .portal 5 f → e.portal = some p → f.tag = p.tag →
        ((byteAt f.payload 4).getLsbD 7 = false ∨ p.restart = true) →
        exec (.portalFrame f) s = .next { s with lc := s.lineAfterFrame })) ∧
    (f.src = 255 ∨ s.le.station = .fallback →
      (s.Takes .level 11 f → exec (.levelFrame f) s = .next { s with lc := s.lineAfterFrame }) ∧
      (s.Takes .portal 5 f → exec (.portalFrame f) s = .next { s with lc := s.lineAfterFrame }) ∧
      (s.Takes .ident f.payload.length f → 4 ≤ f.payload.length → f.payload.length ≤ 48 →
        exec (.identFrame f) s = .next { s with lc := s.lineAfterFrame }))

/-- R35, R36: a frame from an unknown address meets a full table. Where some ordinary entry is LOST, one of them gives way: the one of
greatest entry age, then without a photometer side, then without the luminaire mark, then of the lowest address; the new entry
takes the frame's content. Where none is, the frame is refused and TABLE_FULL set. -/
def Obligations.FullTableReplacesOrRefuses : Prop :=
  ∀ (s : State) (c : Instr) (f : Frame),
    (c = .levelFrame f ∧ s.Takes .level 11 f ∨
      c = .portalFrame f ∧ s.Takes .portal 5 f ∧ (byteAt f.payload 0 = 1 ∨ byteAt f.payload 0 = 2) ∨
      c = .identFrame f ∧ s.Takes .ident f.payload.length f ∧ 4 ≤ f.payload.length ∧ f.payload.length ≤ 48) →
    s.le.station.regulates = true → f.src ≠ 255 → s.pt.entries.length = 32 → findEntry s.pt.entries f.src = none →
    s.pt.entries.Pairwise (fun x y => x.addr < y.addr) →
    ((∃ e ∈ s.pt.entries, e.reserved = false ∧ s.entryLost e = true) →
      ∃ t v e, exec c s = .next t ∧ v ∈ s.pt.entries ∧ v.reserved = false ∧ s.entryLost v = true ∧
        (∀ w ∈ s.pt.entries, w.reserved = false → s.entryLost w = true → w ≠ v →
          s.age w.heardAt < s.age v.heardAt ∨ s.age w.heardAt = s.age v.heardAt ∧
            (v.side = none ∧ w.side ≠ none ∨ (v.side = none ↔ w.side = none) ∧
              (v.luminaire = false ∧ w.luminaire = true ∨ v.luminaire = w.luminaire ∧ v.addr < w.addr))) ∧
        findEntry t.pt.entries v.addr = none ∧
        findEntry t.pt.entries f.src = some e ∧
        (let made : Entry := { addr := f.src, reserved := false, side := none, luminaire := false, heardAt := s.now,
                               agedOut := false, portal := none, level := none }
         (c = .levelFrame f →
           e = { made with luminaire := decide (1 ≤ (byteAt f.payload 8).toNat / 16),
                           level := some { delivered := min (fieldAt f.payload 0) 2000, restart := (byteAt f.payload 6).getLsbD 7,
                                           tag := f.tag, takenAt := s.now, aged := .fresh } }) ∧
         (∀ side, c = .portalFrame f → byteAt f.payload 0 = side.code →
           e = { made with side := some side,
                           portal := some { side := side, luminance := min (fieldAt f.payload 1) 16000,
                                            sensorFault := (byteAt f.payload 4).getLsbD 1,
                                            restart := (byteAt f.payload 4).getLsbD 7, tag := f.tag, takenAt := s.now,
                                            aged := .fresh } }) ∧
         (c = .identFrame f → e = { made with side := (readRole f.payload).1, luminaire := (readRole f.payload).2 })) ∧
        (∀ a, a ≠ f.src → a ≠ v.addr → findEntry t.pt.entries a = findEntry s.pt.entries a) ∧
        t.pt.entries.length = 32 ∧
        t = { s with pt := { t.pt with neighbourLost := s.pt.neighbourLost }, lc := s.lineAfterFrame }) ∧
    ((∀ e ∈ s.pt.entries, e.reserved = true ∨ s.entryLost e = false) →
      ∃ t, exec c s = .next t ∧ t.fr.flags = s.fr.flags ||| Flag.tableFull.bit ∧ t.fr.mask = s.fr.mask ∧
        t = { s with lc := s.lineAfterFrame, fr := t.fr })

/-- R32, R33, R38, R50, R70: ageing. Below the stale time a part is FRESH, between the stale time and the lost time STALE, beyond the
lost time LOST; at the very instant of a limit the event decides. PART_STALE brings a part to STALE and, for a reserved entry's
level part in RUNNING, begins NEIGHBOUR_LOST; PART_LOST brings it to LOST; an entry that holds parts is LOST exactly when every part it holds is; ENTRY_LOST makes an entry without parts LOST. An event of
the same instant taken before them finds the part, or the entry, as it was. Nothing but the clock, how far the part has aged and
NEIGHBOUR_LOST changes.
Ages as instants and the clock's part are the model's choices (log 2, log 6), and the event at the instant of a limit and a late
or missing one are log 29. -/
def Obligations.AgeingChangesFreshness : Prop :=
  ∀ (s : State) (addr : Byte), s.le.station.regulates = true →
    s.cfg.staleTime < s.cfg.lostTime → s.cfg.lostTime ≤ 60000 →
    (∀ (taken : Time) (aged : Freshness),
      let age := min (s.now - taken) 1310700000
      (age < 20000 * s.cfg.staleTime → s.freshness taken aged = .fresh) ∧
      (20000 * s.cfg.staleTime < age → age < 20000 * s.cfg.lostTime → s.freshness taken aged = .stale) ∧
      (20000 * s.cfg.lostTime < age → s.freshness taken aged = .lost)) ∧
    (∀ e : Entry,
      (e.portal ≠ none ∨ e.level ≠ none →
        (s.entryLost e = true ↔ (∀ p, e.portal = some p → s.freshness p.takenAt p.aged = .lost) ∧
          ∀ l, e.level = some l → s.freshness l.takenAt l.aged = .lost)) ∧
      (e.portal = none → e.level = none →
        let age := min (s.now - e.heardAt) 1310700000
        (s.entryLost e = true ↔ 20000 * s.cfg.lostTime < age ∨ 20000 * s.cfg.lostTime = age ∧ e.agedOut = true))) ∧
    (∀ (e : Entry) (part : PartKind) (taken : Time) (aged : Freshness), findEntry s.pt.entries addr = some e →
      (match part with
        | .levelPart => e.level.map fun l => (l.takenAt, l.aged)
        | .portalPart => e.portal.map fun p => (p.takenAt, p.aged)) = some (taken, aged) →
      (let now (x : Freshness) : Entry := match part with
         | .levelPart => { e with level := e.level.map fun l => { l with aged := x } }
         | .portalPart => { e with portal := e.portal.map fun p => { p with aged := x } }
       (aged ≠ .lost → s.now ≤ taken + 20000 * s.cfg.staleTime →
         ∃ t, exec (.partStale addr part) s = .next t ∧ t.now = taken + 20000 * s.cfg.staleTime ∧
           findEntry t.pt.entries addr = some (now .stale) ∧ t.freshness taken .stale = .stale ∧
           t.freshness taken .fresh = .fresh ∧
           (∀ a, a ≠ addr → findEntry t.pt.entries a = findEntry s.pt.entries a) ∧
           (part = .levelPart → s.le.station = .running → e.reserved = true →
             t.pt.neighbourLost = true ∧ t.fr.isSet .neighbourLost = true) ∧ t.RaisesOnly s [.neighbourLost] ∧
           (part = .portalPart ∨ e.reserved = false → t.pt.neighbourLost = s.pt.neighbourLost ∧ t.fr = s.fr) ∧
           t = { s with now := t.now, pt := t.pt, fr := t.fr }) ∧
       (s.now ≤ taken + 20000 * s.cfg.lostTime →
         ∃ t, exec (.partLost addr part) s = .next t ∧ t.now = taken + 20000 * s.cfg.lostTime ∧
           findEntry t.pt.entries addr = some (now .lost) ∧ t.freshness taken .lost = .lost ∧
           t.freshness taken .stale = .stale ∧
           (∀ a, a ≠ addr → findEntry t.pt.entries a = findEntry s.pt.entries a) ∧
           t = { s with now := t.now, pt := { s.pt with entries := t.pt.entries } }))) ∧
    (∀ e, findEntry s.pt.entries addr = some e → e.portal = none → e.level = none →
      s.now ≤ e.heardAt + 20000 * s.cfg.lostTime →
      ∃ t, exec (.entryLost addr) s = .next t ∧ t.now = e.heardAt + 20000 * s.cfg.lostTime ∧
        findEntry t.pt.entries addr = some { e with agedOut := true } ∧ t.entryLost { e with agedOut := true } = true ∧
        t.entryLost { e with agedOut := false } = false ∧
        (∀ a, a ≠ addr → findEntry t.pt.entries a = findEntry s.pt.entries a) ∧
        t = { s with now := t.now, pt := { s.pt with entries := t.pt.entries } })

/-! ### Portal luminance and the demand -/

/-- R43, R44: the candidates of a side are the own reading, where it is valid and of that side, at the station's own address, and each
FRESH portal part of that side free of the SENSOR_FAULT mark; in a sound table they stand in rising order of address. -/
def Obligations.CandidatesGathered : Prop :=
  ∀ (s : State) (x : Side),
    (∀ a l, (a, l) ∈ s.candidates x ↔
      (s.pfe.reading = some l ∧ s.cfg.side = some x ∧ a = s.line.address) ∨
        ∃ e ∈ s.pt.entries, ∃ p, e.portal = some p ∧ e.addr = a ∧ p.luminance = l ∧ p.side = x ∧ p.sensorFault = false ∧
          s.freshness p.takenAt p.aged = .fresh) ∧
    (s.TableSound → (s.candidates x).Pairwise fun u v => u.1 < v.1)

/-- R45, R46, R47, R48, R49: what a level update makes of a served side, from the at most three candidates of lowest address: LIVE on
their median, the larger, or the one; HOLDING within the hold time; DEFAULT otherwise, with PORTAL_X_LOST present while RUNNING.
A side B that is not served is left as it is.
Where the clock stands is the model's choice (log 2). -/
def Obligations.SideFormedAtUpdate : Prop :=
  ∀ (s : State) (due : Time), s.le.updateTimer = some due → s.le.station.regulates = true →
    ∃ t, exec .levelUpdate s = .next t ∧
      (s.cfg.distanceB = none → t.pa.b = s.pa.b) ∧
      ∀ x : Side, (x = .b → s.cfg.distanceB ≠ none) →
        (let kept := (((s.elapseTo due).candidates x).take 3).map Prod.snd
         let held := (s.pa.get x).everValid = true ∧ max s.now due - (s.pa.get x).validAt < 20000000 * s.cfg.holdTime
         (kept ≠ [] → ∃ l,
           t.pa.get x = { status := some .live, lastAggregate := some l, everValid := true, validAt := max s.now due,
                          luminance := some l, lost := false } ∧
           (∀ u, kept = [u] → l = u) ∧ (∀ u v, kept = [u, v] → l = max u v) ∧
           (∀ u v w, kept = [u, v, w] → l ∈ kept ∧ 2 ≤ (kept.filter fun y => y ≤ l).length ∧ 2 ≤ (kept.filter fun y => l ≤ y).length)) ∧
         (kept = [] → held →
           t.pa.get x = { s.pa.get x with status := some .holding, luminance := (s.pa.get x).lastAggregate, lost := false }) ∧
         (kept = [] → ¬held →
           t.pa.get x = { s.pa.get x with status := some .onDefault, luminance := some s.cfg.defaultLuminance,
                                          lost := decide (s.le.station = .running) }) ∧
         ((t.pa.get x).lost = true → t.fr.isSet (match x with | .a => .portalALost | .b => .portalBLost) = true))

/-- R53, R54, R63, R64, R71, R73, R74, R76, R77: the demand calculator at a level update. A pending trim is taken up; the target is
at least every term present and equals the governing one, which is the first in the order PORTAL_A, PORTAL_B, INTERIOR, NEIGHBOUR,
FLOOR that does; the required level and the required-level part of CAPACITY follow.
Where the clock stands is the model's choice (log 2). -/
def Obligations.DemandAtUpdate : Prop :=
  ∀ (s : State) (due : Time), s.le.updateTimer = some due → s.le.station.regulates = true →
    ∃ t target governing, exec .levelUpdate s = .next t ∧
      (let trim := s.dc.pendingTrim.getD s.dc.trim
       let demand (r : SideRecord) (ratio : Option Nat) : Nat :=
         ((r.luminance.getD 0 * s.cfg.thresholdRatio * trim + 500000) / 1000000 * ratio.getD 0 + 999) / 1000
       let a := demand t.pa.a s.dc.ratioA
       let b := demand t.pa.b s.dc.ratioB
       let belowB := s.cfg.distanceB ≠ none → b < target
       let f := (s.elapseTo due).neighbourFloor
       t.dc.trim = trim ∧ t.dc.pendingTrim = none ∧ t.dc.lockDown = s.dc.lockDown ∧
       t.dc.ratioA = s.dc.ratioA ∧ t.dc.ratioB = s.dc.ratioB ∧
       t.dc.target = some target ∧ t.dc.term = some governing ∧
       a ≤ target ∧ (s.cfg.distanceB ≠ none → b ≤ target) ∧ s.cfg.interior ≤ target ∧ f ≤ target ∧
       (s.le.station = .running → ∀ e ∈ s.ol.entries, e.kind = .floor → e.floorLevel.getD 0 ≤ target) ∧
       (governing = .portalA ∧ a = target ∨
         governing = .portalB ∧ s.cfg.distanceB ≠ none ∧ b = target ∧ a < target ∨
         governing = .interior ∧ s.cfg.interior = target ∧ a < target ∧ belowB ∨
         governing = .neighbour ∧ f = target ∧ a < target ∧ belowB ∧ s.cfg.interior < target ∨
         governing = .floor ∧ s.le.station = .running ∧ (∃ e ∈ s.ol.entries, e.kind = .floor ∧ e.floorLevel.getD 0 = target) ∧
           a < target ∧ belowB ∧ s.cfg.interior < target ∧ f < target) ∧
       t.dc.required = some (min ((target * 10000 + s.yieldE - 1) / s.yieldE) 10000) ∧
       t.dc.capacityPart = (decide (s.le.station = .running) && decide (10000 < (target * 10000 + s.yieldE - 1) / s.yieldE)) ∧
       (t.dc.capacityPart = true → t.fr.isSet .capacity = true))

/-- R53, R64, R76 and the note to R76: the directions of rounding. The threshold is the nearest whole luminance, an exact half going
up; the portal demand is the least that covers it, and both stay at or below 1920; the required level is the least that gives the
target, its clamp acts exactly when the target exceeds the yield, and unclamped it delivers the target exactly. -/
def Obligations.RoundingIsTowardLight : Prop :=
  (∀ l k t, threshold l k t * 1000000 ≤ l * k * t + 500000 ∧ l * k * t < threshold l k t * 1000000 + 500000) ∧
  (∀ h r m, h * r ≤ m * 1000 ↔ portalDemand h r ≤ m) ∧
  (∀ l k t r, l ≤ 16000 → k ≤ 100 → t ≤ 1200 → r ≤ 1000 →
    threshold l k t ≤ 1920 ∧ portalDemand (threshold l k t) r ≤ 1920) ∧
  (∀ l e m, 1 ≤ e → (l * 10000 ≤ m * e ↔ countsFor l e ≤ m)) ∧
  (∀ l e, 1 ≤ e → (10000 < countsFor l e ↔ e < l)) ∧
  (∀ l e, 1 ≤ e → e ≤ 2000 → l ≤ e → deliveredLuminance (requiredLevel l e) e = l)

/-- R67, R68: a reserved entry with a FRESH level part gives the lowest floor F at which R × F covers ten times its delivered
luminance; every other entry gives none; the neighbour floor is the largest, or 0. -/
def Obligations.NeighbourFloorIsLowest : Prop :=
  ∀ s : State, 1 ≤ s.cfg.stepRatio →
    (∀ e l, e.reserved = true → e.level = some l → s.freshness l.takenAt l.aged = .fresh →
      ∀ m, l.delivered * 10 ≤ m * s.cfg.stepRatio ↔ s.entryFloor e ≤ m) ∧
    (∀ e, (e.reserved = false ∨ ∀ l, e.level = some l → s.freshness l.takenAt l.aged ≠ .fresh) → s.entryFloor e = 0) ∧
    (∀ e ∈ s.pt.entries, s.entryFloor e ≤ s.neighbourFloor) ∧
    (s.neighbourFloor = 0 ∨ ∃ e ∈ s.pt.entries, s.entryFloor e = s.neighbourFloor)

/-- R61, R62: the station ratio read off a usable profile: a breakpoint's own ratio at its distance, the straight line between two
consecutive breakpoints rounded up to the next whole per-mille, and the last ratio beyond the last breakpoint. -/
def Obligations.StationRatioInterpolates : Prop :=
  ∀ (before after : List Breakpoint) (b c : Breakpoint) (d : Nat), profileUsable (before ++ b :: c :: after) = true →
    (let r := stationRatio (before ++ b :: c :: after)
     let span := c.distance - b.distance
     let part := (b.ratio - c.ratio) * (d - b.distance)
     r b.distance = b.ratio ∧ r c.distance = c.ratio ∧
     (b.distance < d → d < c.distance →
       r d = b.ratio - part / span ∧ c.ratio ≤ r d ∧ r d ≤ b.ratio ∧
       b.ratio * span ≤ r d * span + part ∧ r d * span + part < b.ratio * span + span) ∧
     (after = [] → c.distance < d → r d = c.ratio))

/-- R55, R56, R57, R58: a TRIM is refused where the record does not permit it or the lock-down is engaged, and raises TRIM_REFUSED;
otherwise its clamped value becomes the pending trim and a lock field other than 0 engages the lock-down. In FALLBACK it is
ignored. -/
def Obligations.TrimAppliedOrRefused : Prop :=
  ∀ (s : State) (f : Frame), s.Takes .trim 3 f →
    (s.le.station.regulates = true → s.cfg.trimPermitted = true → s.dc.lockDown = false →
      exec (.trimFrame f) s = .next { s with
        lc := s.lineAfterFrame,
        dc := { s.dc with pendingTrim := some (max 800 (min (fieldAt f.payload 0) 1200)),
                          lockDown := decide (byteAt f.payload 2 ≠ 0) } }) ∧
    (s.le.station.regulates = true → (s.cfg.trimPermitted = false ∨ s.dc.lockDown = true) →
      ∃ t, exec (.trimFrame f) s = .next t ∧ t.fr.flags = s.fr.flags ||| Flag.trimRefused.bit ∧ t.fr.mask = s.fr.mask ∧
        t = { s with lc := s.lineAfterFrame, fr := t.fr }) ∧
    (s.le.station = .fallback → exec (.trimFrame f) s = .next { s with lc := s.lineAfterFrame })

/-! ### The level engine and the station states -/

/-- R82, R88, R89, R92, R94: the level update outside RUNNING. In LISTENING C and T stay at 10000 and START is reported with the
calculated target; in FALLBACK C and T are 10000, the yield counts as 1 and FALLBACK is reported with a target of 1; in
CONFIGURING the update timer restarts and nothing else happens.
Where the clock stands is the model's choice (log 2). -/
def Obligations.UpdateOutsideRunning : Prop :=
  ∀ (s : State) (due : Time), s.le.updateTimer = some due →
    (s.le.station = .listening →
      ∃ t, exec .levelUpdate s = .next t ∧
        t.le = { s.le with level := 10000, target := 10000, reportedTerm := some .start, reportedTarget := t.dc.target,
                           delivered := t.ch.delivered * s.cfg.yield / 10000, updateTimer := some (max s.now due + 2000000),
                           placedAt := t.le.placedAt, firstUpdate := t.le.firstUpdate, lastReported := t.le.lastReported,
                           tag := t.le.tag } ∧
        t.ch.held = some 10000 ∧ t.dc.capacityPart = false ∧
        t.pa.a.lost = false ∧ (s.serves .b = true → t.pa.b.lost = false) ∧
        t = { s with now := max s.now due, dc := t.dc, pa := t.pa, le := t.le, ch := t.ch, lc := t.lc, fr := t.fr }) ∧
    (s.le.station = .fallback →
      ∃ t, exec .levelUpdate s = .next t ∧
        t.le = { s.le with level := 10000, target := 10000, suspended := false, reportedTerm := some .fallback,
                           reportedTarget := some 1, delivered := if t.ch.delivered = 10000 then 1 else 0,
                           updateTimer := some (max s.now due + 2000000), placedAt := t.le.placedAt,
                           firstUpdate := t.le.firstUpdate, lastReported := t.le.lastReported, tag := t.le.tag } ∧
        t.ch.held = some 10000 ∧
        t = { s with now := max s.now due, le := t.le, ch := t.ch, lc := t.lc, fr := t.fr }) ∧
    (s.le.station = .configuring →
      exec .levelUpdate s =
        .next { s with now := max s.now due, le := { s.le with updateTimer := some (max s.now due + 2000000) } })

/-- R83, R84, R86, R87, R88, R89, R111: the level update in RUNNING. Under a FULL C and T are 10000; under a HOLD alone C is frozen and
the SUSPENDED mark set; otherwise C moves toward the required level by at most U up or D down. C is handed to the channels and
the delivered luminance formed.
Where the clock stands is the model's choice (log 2). -/
def Obligations.RunningUpdateSetsLevel : Prop :=
  ∀ (s : State) (due : Time), s.le.updateTimer = some due → s.le.station = .running →
    ∃ t required, exec .levelUpdate s = .next t ∧ t.dc.required = some required ∧
      (s.FullInForce →
        t.le.level = 10000 ∧ t.le.target = 10000 ∧ t.le.suspended = false ∧ t.le.reportedTerm = some .full ∧
        t.le.reportedTarget = some s.cfg.yield) ∧
      (¬s.FullInForce → s.HoldInForce →
        t.le.level = s.le.level ∧ t.le.target = required ∧ t.le.suspended = true ∧ t.le.reportedTerm = some .hold ∧
        t.le.reportedTarget = t.dc.target) ∧
      (¬s.FullInForce → ¬s.HoldInForce →
        t.le.target = required ∧ t.le.suspended = false ∧ t.le.reportedTerm = t.dc.term ∧ t.le.reportedTarget = t.dc.target ∧
        (s.le.level < required → t.le.level = s.le.level + min (required - s.le.level) s.cfg.riseLimit) ∧
        (required < s.le.level → t.le.level = s.le.level - min (s.le.level - required) s.cfg.fallLimit) ∧
        (required = s.le.level → t.le.level = s.le.level)) ∧
      t.ch.held = some t.le.level ∧ t.le.delivered = t.ch.delivered * s.cfg.yield / 10000 ∧
      t.le.station = .running ∧ t.le.updateTimer = some (max s.now due + 2000000) ∧
      t.le.listeningTimer = s.le.listeningTimer ∧ t.le.restartPending = s.le.restartPending ∧
      t = { s with now := max s.now due, dc := t.dc, pa := t.pa, le := t.le, ch := t.ch, lc := t.lc, fr := t.fr }

/-- R95, R96, R97, R98, R165: at a level update a LEVEL content is placed exactly when it is the first of LISTENING or FALLBACK, P has
passed, or the delivered luminance has moved enough after P/4; its eleven bytes carry the update's values and the present flags.
Where the clock stands is the model's choice (log 2), as is the mark of the first update (log 19). -/
def Obligations.LevelReportPlacement : Prop :=
  ∀ (s : State) (due : Time), s.le.updateTimer = some due → s.le.station ≠ .configuring →
    ∃ t, exec .levelUpdate s = .next t ∧
      (let since := min (max s.now due - s.le.placedAt) 40000000
       let moved := (t.le.delivered - s.le.lastReported) + (s.le.lastReported - t.le.delivered)
       if (s.le.firstUpdate = true ∧ s.le.station ≠ .running) ∨ 20000 * s.reportPeriod ≤ since ∨
           (1 ≤ moved ∧ s.le.lastReported ≤ 8 * moved ∧ 20000 * s.reportPeriod ≤ 4 * since)
       then
         SlotFilled s.lc t.lc s.line (max s.now due) .level
           { dest := 255, kind := .level, tag := s.le.tag,
             payload := be16 t.le.delivered ++ be16 (t.le.reportedTarget.getD 0) ++ be16 t.le.level ++
               [s.le.station.code ||| markBit 6 t.le.suspended ||| markBit 7 s.le.restartPending,
                (t.le.reportedTerm.map Term.code).getD 0,
                BitVec.ofNat 8 (s.channelCount * 16 + s.ch.healthyCount s.channelCount)] ++ be16 t.fr.flags.toNat } ∧
         t.le.tag = s.le.tag + 1 ∧ t.le.lastReported = t.le.delivered ∧ t.le.placedAt = max s.now due ∧
         t.le.firstUpdate = false
       else
         t.lc = s.lc ∧ t.le.tag = s.le.tag ∧ t.le.lastReported = s.le.lastReported ∧ t.le.placedAt = s.le.placedAt ∧
         t.le.firstUpdate = s.le.firstUpdate)

/-- R84, second paragraph, with R85, R86 and R100, over every step: C falls by at most D and rises by at most U, or becomes 10000;
and only a level update moves it to anything else. -/
def Obligations.OutputMovesWithinLimits : Prop :=
  (∀ s t : State, step s = .next t →
    t.le.level = 10000 ∨ (s.le.level ≤ t.le.level + s.cfg.fallLimit ∧ t.le.level ≤ s.le.level + s.cfg.riseLimit)) ∧
  (∀ (c : Instr) (s t : State), exec c s = .next t → c ≠ .levelUpdate → t.le.level = s.le.level ∨ t.le.level = 10000)

/-- R38, R42, R48, R92: the LISTENING timer's expiry. The station enters RUNNING; C, T and the SUSPENDED mark stay; NEIGHBOUR_LOST and
the PORTAL_X_LOST conditions are examined; no entry, report, channel or slot is touched.
Where the clock stands is the model's choice (log 2), and that PART_STALE decides at the very instant of the stale time is log 29. -/
def Obligations.ListeningExpiryEntersRunning : Prop :=
  ∀ (s : State) (due : Time), s.le.listeningTimer = some due → s.le.station = .listening →
    ∃ t, exec .listeningTimerExpiry s = .next t ∧
      t.le = { s.le with station := .running, listeningTimer := none } ∧
      t.pt.entries = s.pt.entries ∧ (t.pt.neighbourLost = true ↔ t.NeighbourMissing) ∧
      t.pa = { a := { s.pa.a with lost := decide (s.pa.a.status = some .onDefault) },
               b := { s.pa.b with lost := s.cfg.distanceB.isSome && decide (s.pa.b.status = some .onDefault) } } ∧
      (t.pt.neighbourLost = true → t.fr.isSet .neighbourLost = true) ∧
      (t.pa.a.lost = true → t.fr.isSet .portalALost = true) ∧ (t.pa.b.lost = true → t.fr.isSet .portalBLost = true) ∧
      t.RaisesOnly s [.neighbourLost, .portalALost, .portalBLost] ∧
      t = { s with now := max s.now due, le := t.le, pt := t.pt, pa := t.pa, fr := t.fr }

/-- The table of section 5.6: the station state changes only by a reset, to CONFIGURING; by the completion of the read, from
CONFIGURING to LISTENING on a good record and to FALLBACK on a structural failure; and by the LISTENING timer, to RUNNING.
That POWER_LOSS, too, leaves CONFIGURING, which the table does not list, is the model's choice (log 10). -/
def Obligations.StationTransitions : Prop :=
  ∀ (c : Instr) (s t : State), exec c s = .next t → t.le.station ≠ s.le.station →
    (t.le.station = .configuring ∧
      (c = .powerUp ∨ c = .rstnAssert ∨ c = .rstnRelease ∨ c = .powerLoss ∨
        t.lc.lineResets = min (s.lc.lineResets + 1) 255 ∧ ((∃ f, c = .resetFrame f) ∨ ∃ ch, c = .characterReceived ch))) ∨
    (s.le.station = .configuring ∧ ∃ image, c = .configReadComplete image ∧
      (structuralFailure (recordImage image) = false ∧ t.le.station = .listening ∨
        structuralFailure (recordImage image) = true ∧ t.le.station = .fallback)) ∨
    (c = .listeningTimerExpiry ∧ s.le.station = .listening ∧ t.le.station = .running)

/-! ### Overrides and the FULLIN contact -/

/-- R85, R101, R103, R104, R105: an order that matches an entry refreshes it in place; one that matches none joins the end of a list
with room, with duration and floor level clamped, and a FULL that begins to be effective in RUNNING sets the output to full at
once. That moves nothing of a channel but its command and open timer, leaves the PWM period timer and the alarm mask, and raises no
flag but those of the channel block. -/
def Obligations.OrderRefreshesOrIsAdmitted : Prop :=
  ∀ (s : State) (f : Frame) (kind : OverrideKind),
    s.Takes .override 5 f → s.le.station.regulates = true → f.src ≠ 255 →
    byteAt f.payload 0 = overrideCode kind → 1 ≤ fieldAt f.payload 3 →
    (let e : OverrideEntry :=
       { source := f.src, kind := kind, floorLevel := if kind = .floor then some (min (fieldAt f.payload 1) 2000) else none,
         remaining := min (fieldAt f.payload 3) 3600, secondDue := s.now + 20000000 }
     ((∃ x ∈ s.ol.entries, x.source = f.src ∧ x.kind = kind) →
       exec (.overrideFrame f) s = .next { s with
         lc := s.lineAfterFrame,
         ol := { s.ol with entries := s.ol.entries.map fun x => if x.source = f.src ∧ x.kind = kind then e else x } }) ∧
     ((∀ x ∈ s.ol.entries, ¬(x.source = f.src ∧ x.kind = kind)) → s.ol.entries.length < 4 →
       ∃ t, exec (.overrideFrame f) s = .next t ∧
         t.ol = { s.ol with entries := s.ol.entries ++ [e] } ∧
         (if kind = .full ∧ ¬s.FullInForce ∧ s.le.station = .running then
           t.le = { s.le with level := 10000, target := 10000, suspended := false } ∧ t.ch.held = some 10000 ∧
             t.OnlyRecomputed s ∧ t.ChannelsComputed (fun k => (s.ch.get k).openTimer) ∧ t.RaisesOnly s channelFlags
          else t.le = s.le ∧ t.ch = s.ch ∧ t.fr = s.fr) ∧
         t = { s with lc := s.lineAfterFrame, ol := t.ol, le := t.le, ch := t.ch, fr := t.fr }))

/-- R106, R107: an order meets a full list it matches no entry of. Among the entries of equal or lower priority one gives way: of the
lowest priority, then of least remaining time, then of the earliest place; the order joins the end, and a FULL that begins to be
effective in RUNNING sets the output to full at once (R85), moving nothing of a channel but its command and open timer and raising no
flag but those of the channel block. With no such entry it is refused and OVERRIDE_REFUSED set. -/
def Obligations.OrderAtFullList : Prop :=
  ∀ (s : State) (f : Frame) (kind : OverrideKind),
    s.Takes .override 5 f → s.le.station.regulates = true → f.src ≠ 255 →
    byteAt f.payload 0 = overrideCode kind → 1 ≤ fieldAt f.payload 3 →
    (∀ x ∈ s.ol.entries, ¬(x.source = f.src ∧ x.kind = kind)) → s.ol.entries.length = 4 → s.ListSound →
    ((∀ x ∈ s.ol.entries, overridePriority kind < overridePriority x.kind) →
      ∃ t, exec (.overrideFrame f) s = .next t ∧ t.fr.flags = s.fr.flags ||| Flag.overrideRefused.bit ∧ t.fr.mask = s.fr.mask ∧
        t = { s with lc := s.lineAfterFrame, fr := t.fr }) ∧
    ((∃ x ∈ s.ol.entries, overridePriority x.kind ≤ overridePriority kind) →
      ∃ t i v, exec (.overrideFrame f) s = .next t ∧
        s.ol.entries[i]? = some v ∧ overridePriority v.kind ≤ overridePriority kind ∧
        (∀ (j : Nat) w, j ≠ i → s.ol.entries[j]? = some w → overridePriority w.kind ≤ overridePriority kind →
          overridePriority v.kind < overridePriority w.kind ∨ overridePriority v.kind = overridePriority w.kind ∧
            (v.remaining < w.remaining ∨ v.remaining = w.remaining ∧
              (v.secondDue < w.secondDue ∨ v.secondDue = w.secondDue ∧ i < j))) ∧
        t.ol = { s.ol with entries := s.ol.entries.eraseIdx i ++
          [{ source := f.src, kind := kind, floorLevel := if kind = .floor then some (min (fieldAt f.payload 1) 2000) else none,
             remaining := min (fieldAt f.payload 3) 3600, secondDue := s.now + 20000000 }] } ∧
        (if kind = .full ∧ ¬s.FullInForce ∧ s.le.station = .running then
           t.le = { s.le with level := 10000, target := 10000, suspended := false } ∧ t.ch.held = some 10000 ∧
             t.OnlyRecomputed s ∧ t.ChannelsComputed (fun k => (s.ch.get k).openTimer) ∧ t.RaisesOnly s channelFlags
         else t.le = s.le ∧ t.ch = s.ch ∧ t.fr = s.fr) ∧
        t = { s with lc := s.lineAfterFrame, ol := t.ol, le := t.le, ch := t.ch, fr := t.fr })

/-- R102, R103, R108: a release removes the entry of its source and kind, and is otherwise ignored; the second timer's expiry takes
one second from its entry, which stays with its timer restarted or leaves at 0. The output waits for the next update. An OVERRIDE of
a kind that is none of the three, from source 255, or in FALLBACK, is ignored.
Where the clock stands is the model's choice (log 2). -/
def Obligations.ReleaseAndExpiryRemove : Prop :=
  (∀ (s : State) (f : Frame) (kind : OverrideKind),
    s.Takes .override 5 f → s.le.station.regulates = true → f.src ≠ 255 →
    byteAt f.payload 0 = overrideCode kind → fieldAt f.payload 3 = 0 →
    exec (.overrideFrame f) s = .next { s with
      lc := s.lineAfterFrame,
      ol := { s.ol with entries := s.ol.entries.filter fun x => decide (¬(x.source = f.src ∧ x.kind = kind)) } }) ∧
  (∀ (s : State) (f : Frame), s.Takes .override 5 f →
    s.le.station = .fallback ∨ f.src = 255 ∨ (byteAt f.payload 0 ≠ 1 ∧ byteAt f.payload 0 ≠ 2 ∧ byteAt f.payload 0 ≠ 3) →
    exec (.overrideFrame f) s = .next { s with lc := s.lineAfterFrame }) ∧
  (∀ (s : State) (before after : List OverrideEntry) (e : OverrideEntry),
    s.ListSound → s.ol.entries = before ++ e :: after →
    exec (.overrideSecondTimerExpiry e.source e.kind) s = .next { s with
      now := max s.now e.secondDue,
      ol := { s.ol with entries :=
        before ++ (if e.remaining ≤ 1 then []
                   else [{ e with remaining := e.remaining - 1, secondDue := max s.now e.secondDue + 20000000 }]) ++ after } })

/-- R112, R174: a change of the FULLIN pin starts the debounce timer with 30 ms where the pin now differs from the debounced state and
stops it where it agrees; a part held in reset does not compare it. An expiry that finds the pin agreeing changes nothing
more.
The clock's part is the model's choice (log 2), as is that an unpowered part only follows the pin (log 10); the operand of the change
is deduced (log 27). -/
def Obligations.FullinPinDebounced : Prop :=
  (∀ (s : State) (closed : Bool), s.fullinClosed ≠ closed →
    (s.powered = true → s.rstnLow = false →
      exec (.fullinPinChange closed) s = .next { s with
        fullinClosed := closed,
        ol := { s.ol with debounceTimer := if closed = s.ol.contactClosed then none else some (s.now + 600000) } }) ∧
    (s.powered = false ∨ s.rstnLow = true → exec (.fullinPinChange closed) s = .next { s with fullinClosed := closed })) ∧
  (∀ (s : State) (due : Time), s.ol.debounceTimer = some due → s.fullinClosed = s.ol.contactClosed →
    exec .fullinDebounceExpiry s = .next { s with now := max s.now due, ol := { s.ol with debounceTimer := none } })

/-- R85, R113, R114: the debounced contact closes or opens. A closing begins a FULL where no FULL entry is held, and in RUNNING the
output goes to full at once, moving nothing of a channel but its command and open timer and raising no flag but those of the channel
block; with propagation on, a FULL of 10 s is placed and repeated every 4 s, and a release is placed at the
opening.
Where the clock stands is the model's choice (log 2). -/
def Obligations.ContactActsAndPropagates : Prop :=
  ∀ (s : State) (due : Time),
    (s.ol.debounceTimer = some due → s.fullinClosed = true → s.ol.contactClosed = false →
      ∃ t, exec .fullinDebounceExpiry s = .next t ∧
        t.ol = { s.ol with contactClosed := true, debounceTimer := none,
                           propagationTimer := if s.propagates then some (max s.now due + 80000000) else s.ol.propagationTimer } ∧
        (if s.le.station = .running ∧ ∀ e ∈ s.ol.entries, e.kind ≠ .full then
           t.le = { s.le with level := 10000, target := 10000, suspended := false } ∧ t.ch.held = some 10000 ∧
             t.OnlyRecomputed s ∧ t.ChannelsComputed (fun k => (s.ch.get k).openTimer) ∧ t.RaisesOnly s channelFlags
         else t.le = s.le ∧ t.ch = s.ch ∧ t.fr = s.fr) ∧
        (if s.propagates then
           SlotFilled s.lc t.lc s.line (max s.now due) .override
             { dest := s.cfg.group, kind := .override, tag := 0, payload := [1, 0, 0, 0, 10] }
         else t.lc = s.lc) ∧
        t = { s with now := max s.now due, ol := t.ol, le := t.le, ch := t.ch, fr := t.fr, lc := t.lc }) ∧
    (s.ol.debounceTimer = some due → s.fullinClosed = false → s.ol.contactClosed = true →
      ∃ t, exec .fullinDebounceExpiry s = .next t ∧
        t.ol = { s.ol with contactClosed := false, debounceTimer := none, propagationTimer := none } ∧
        (if s.propagates then
           SlotFilled s.lc t.lc s.line (max s.now due) .override
             { dest := s.cfg.group, kind := .override, tag := 0, payload := [1, 0, 0, 0, 0] }
         else t.lc = s.lc) ∧
        t = { s with now := max s.now due, ol := t.ol, lc := t.lc }) ∧
    (s.ol.propagationTimer = some due → s.ol.contactClosed = true → s.propagates = true →
      ∃ t, exec .propagationTimerExpiry s = .next t ∧
        SlotFilled s.lc t.lc s.line (max s.now due) .override
          { dest := s.cfg.group, kind := .override, tag := 0, payload := [1, 0, 0, 0, 10] } ∧
        t = { s with now := max s.now due, ol := { s.ol with propagationTimer := some (max s.now due + 80000000) }, lc := t.lc })

/-! ### The channel block -/

/-- R121, R122, R123, R124, R132: after a level update outside CONFIGURING each channel has the command of the table of R121 and the block
the delivered counts of R122, from the level just handed over; the delivered counts never exceed it, and reach it where the clamp
does not act; n is the record's count, and 4 in FALLBACK. The delivery part of CAPACITY follows, and each open timer runs on, starts or stops by the new command: it runs in
LISTENING and RUNNING, at 1000 counts or more, on a DRIVING channel without the OPEN mark. Nothing else of a channel changes, and the
PWM period timer runs on (R120); the update raises no flag but those of the channel block and of the sides (R141).
Where the clock stands is the model's choice (log 2). -/
def Obligations.CommandsCompensate : Prop :=
  ∀ (s : State) (due : Time), s.le.updateTimer = some due → s.le.station ≠ .configuring →
    s.ValuesInForce ∧ ∃ t, exec .levelUpdate s = .next t ∧ t.OnlyRecomputed s ∧ t.RaisesOnly s (channelFlags ++ [.portalALost, .portalBLost]) ∧
      (let n := s.channelCount
       let h := s.ch.healthyCount n
       let cmd := min ((t.le.level * n + h - 1) / h) 10000
       (∀ k, (s.ch.get k).state ≠ .driving → (t.ch.get k).command = 0) ∧
       (∀ k, (s.ch.get k).state = .driving → (t.ch.get k).command = if h = 0 then t.le.level else cmd) ∧
       t.ch.held = some t.le.level ∧
       t.ch.delivered = (if n = 0 ∨ h = 0 then 0 else min t.le.level (cmd * h / n)) ∧
       (1 ≤ n → 1 ≤ h → t.le.level * n ≤ 10000 * h → t.ch.delivered = t.le.level) ∧
       (1 ≤ n → 1 ≤ h → h ≤ n → 10000 * h < t.le.level * n → t.ch.delivered = 10000 * h / n) ∧
       (t.ch.capacityPart = true ↔ 1 ≤ n ∧ (h = 0 ∨ t.ch.delivered < t.le.level)) ∧
       (t.ch.capacityPart = true → t.fr.isSet .capacity = true) ∧
       t.ChannelsComputed (fun k => (s.ch.get k).openTimer))

/-- R120, R123, R126, R128, R129, R132: the gate drive and the timers of the channels. The gate drive is high from the start of a period
for as many counts as the applied command, or for the whole period at 10000, unless a trip has cut the pulse. A period start makes
every command the applied one, begins every pulse anew but an uncut one of 10000, and returns a count to 0 after a period without a
trip; a retry expiry returns the channel to DRIVING with its history kept and recomputes the commands; a trip time leaves the
history after 60 s.
Where the clock stands is the model's choice (log 2); the instant at which a pulse began is the model's own state (log 19). -/
def Obligations.ChannelTimersRun : Prop :=
  (∀ (s : State) (k : ChannelId) (began : Time), s.powered = true → s.ch.pwmTimer = some (began + 10000) →
    (s.gateDrive k = true ↔ 1 ≤ (s.ch.get k).applied ∧ (s.ch.get k).cut = false ∧
      ((s.ch.get k).applied = 10000 ∨ s.now < began + (s.ch.get k).applied))) ∧
  (∀ (s : State) (due : Time), s.ch.pwmTimer = some due →
    ∃ t, exec .pwmPeriodStart s = .next t ∧
      (∀ k, t.ch.get k = { s.ch.get k with
        applied := (s.ch.get k).command, cut := false,
        tripped := if (s.ch.get k).cut then (s.ch.get k).tripped else 0,
        pulseStart := if (s.ch.get k).applied = 10000 ∧ (s.ch.get k).cut = false then (s.ch.get k).pulseStart
                      else max s.now due }) ∧
      t.ch = { s.ch with c0 := t.ch.c0, c1 := t.ch.c1, c2 := t.ch.c2, c3 := t.ch.c3, pwmTimer := some (max s.now due + 10000) } ∧
      t = { s with now := max s.now due, ch := t.ch }) ∧
  (∀ (s : State) (k : ChannelId) (due : Time), (s.ch.get k).retryTimer = some due → (s.ch.get k).state = .retryWait →
    ∃ t, exec (.retryTimerExpiry k) s = .next t ∧
      t.ch.get k = { s.ch.get k with state := .driving, openMark := false, tripped := 0, retryTimer := none,
                                     command := (t.ch.get k).command, openTimer := (t.ch.get k).openTimer } ∧
      (∀ j, j ≠ k → t.ch.get j = { s.ch.get j with command := (t.ch.get j).command, openTimer := (t.ch.get j).openTimer }) ∧
      t.ChannelsComputed (fun j => if j = k then none else (s.ch.get j).openTimer) ∧ t.RaisesOnly s channelFlags ∧
      t.ch.held = s.ch.held ∧ t.ch.pwmTimer = s.ch.pwmTimer ∧
      t = { s with now := max s.now due, ch := t.ch, fr := t.fr }) ∧
  (∀ (s : State) (k : ChannelId) (taken : Time) (rest : List Time), (s.ch.get k).history = taken :: rest →
    ∃ t, exec (.tripTimeExpiry k) s = .next t ∧
      t.ch.get k = { s.ch.get k with history := rest } ∧ (∀ j, j ≠ k → t.ch.get j = s.ch.get j) ∧
      t = { s with now := max s.now (taken + 1200000000), ch := (s.ch.set k (t.ch.get k)) })

/-- R123, R125, R126, R127, R130, R131: an over-current trip, by the protection mode in force. It is taken at the moment the filter
width has passed in the pulse of a DRIVING channel, and is ignored where there is no such moment: another channel state, no pulse, or
a gate drive that has gone low before. The gate drive goes low in every case. In PERIOD mode the count rises, and the 64th trip in a
row is taken as in RETRY mode; in RETRY mode the trip is recorded and the channel waits, or latches where the history holds 3 times;
in LATCH mode it latches. Where the channel leaves DRIVING the commands are recomputed at once.
Only flags of the channel block can be raised. Mode, filter width and retry time are the record's in LISTENING and RUNNING, and RETRY,
1 µs (20 counts) and 5 s in FALLBACK (R135).
The first moment at which the trip can be taken is deduced (log 15), and the clock's coming to it is the model's choice (log 2). -/
def Obligations.TripsByMode : Prop :=
  ∀ (s : State) (k : ChannelId) (began : Time), s.ch.pwmTimer = some (began + 10000) →
    s.ValuesInForce ∧
    (let c := s.ch.get k
     let moment := max s.now (c.pulseStart + s.filterCounts)
     ((c.state ≠ .driving ∨ c.applied = 0 ∨ c.cut = true ∨
        (c.applied ≠ 10000 ∧ (began + c.applied < moment ∨ s.filterCounts = 0 ∧ began + c.applied = moment))) →
       exec (.overcurrentTrip k) s = .next s) ∧
     (s.powered = true → c.state = .driving → 1 ≤ c.applied → c.cut = false →
       (c.applied = 10000 ∨ moment < began + c.applied ∨ 1 ≤ s.filterCounts ∧ moment = began + c.applied) →
       ∃ t, exec (.overcurrentTrip k) s = .next t ∧
         (let gone : Channel := { c with command := 0, openMark := false, openTimer := none, tripped := 0, cut := true }
          let stays := s.protection = .period ∧ c.tripped + 1 < 64
          let retry := s.protection = .retry ∨ s.protection = .period ∧ 64 ≤ c.tripped + 1
          (stays → t = { s with now := moment, ch := s.ch.set k { c with tripped := c.tripped + 1, cut := true } }) ∧
          (retry → c.history.length < 3 →
            t.ch.get k = { gone with state := .retryWait, history := c.history ++ [moment],
                                     retryTimer := some (moment + 20000000 * s.retrySeconds) }) ∧
          (retry ∧ 3 ≤ c.history.length ∨ s.protection = .latch →
            t.ch.get k = { gone with state := .latched } ∧ t.ch.latchedCondition = true ∧ t.fr.isSet .overcurrentLatched = true) ∧
          (¬stays → t.ChannelsComputed (fun j => (s.ch.get j).openTimer)) ∧ t.RaisesOnly s channelFlags ∧
          t.gateDrive k = false ∧ t.ch.held = s.ch.held ∧ t.ch.pwmTimer = s.ch.pwmTimer ∧
          (∀ j, j ≠ k → t.ch.get j = { s.ch.get j with command := (t.ch.get j).command, openTimer := (t.ch.get j).openTimer }) ∧
          t = { s with now := moment, ch := t.ch, fr := t.fr })))

/-- R123, R132, R133: open load. The open timer's expiry sets the OPEN mark, recomputes the commands and raises OPEN_LOAD; enough current
within a pulse ends the mark and recomputes them, and otherwise restarts a running open timer with the full 2 s. Where the channel is
not DRIVING or its gate drive is low there is no pulse, and nothing happens. Only flags of the channel block can be raised.
Where the clock stands is the model's choice (log 2). -/
def Obligations.OpenLoadMarksAndEnds : Prop :=
  ∀ (s : State) (k : ChannelId),
    (∀ due, (s.ch.get k).openTimer = some due →
      ∃ t, exec (.openTimerExpiry k) s = .next t ∧
        t.ch.get k = { s.ch.get k with openMark := true, openTimer := none, command := (t.ch.get k).command } ∧
        t.ch.openCondition = true ∧ t.fr.isSet .openLoad = true ∧
        (∀ j, j ≠ k → t.ch.get j = { s.ch.get j with command := (t.ch.get j).command, openTimer := (t.ch.get j).openTimer }) ∧
        t.ChannelsComputed (fun j => (s.ch.get j).openTimer) ∧ t.RaisesOnly s channelFlags ∧
        t.ch.held = s.ch.held ∧ t.ch.pwmTimer = s.ch.pwmTimer ∧ t = { s with now := max s.now due, ch := t.ch, fr := t.fr }) ∧
    ((s.ch.get k).state = .driving → s.gateDrive k = true →
      ((s.ch.get k).openMark = true →
        ∃ t, exec (.loadCurrentPulse k) s = .next t ∧
          t.ch.get k = { s.ch.get k with openMark := false, command := (t.ch.get k).command,
                                         openTimer := (t.ch.get k).openTimer } ∧
          (t.ch.openCondition = true ↔ ∃ j, j ≠ k ∧ (s.ch.get j).openMark = true) ∧
          (∀ j, j ≠ k → t.ch.get j = { s.ch.get j with command := (t.ch.get j).command, openTimer := (t.ch.get j).openTimer }) ∧
          t.ChannelsComputed (fun j => if j = k then none else (s.ch.get j).openTimer) ∧ t.RaisesOnly s channelFlags ∧
          t.ch.held = s.ch.held ∧ t.ch.pwmTimer = s.ch.pwmTimer ∧ t = { s with ch := t.ch, fr := t.fr }) ∧
      (∀ due, (s.ch.get k).openMark = false → (s.ch.get k).openTimer = some due →
        exec (.loadCurrentPulse k) s =
          .next { s with ch := s.ch.set k { s.ch.get k with openTimer := some (s.now + 40000000) } }) ∧
      ((s.ch.get k).openMark = false → (s.ch.get k).openTimer = none → exec (.loadCurrentPulse k) s = .next s)) ∧
    ((s.ch.get k).state ≠ .driving ∨ s.gateDrive k = false → exec (.loadCurrentPulse k) s = .next s)

/-- R123, R134, R141: a CLEAR acts on its channels first: those named in RETRY_WAIT or LATCHED return to DRIVING with an empty history,
and the commands are then recomputed once; the others are untouched. Then a flag is set exactly when its condition is present, or it
was set and is not named. -/
def Obligations.ClearActsOnChannelsThenFlags : Prop :=
  ∀ (s : State) (f : Frame), s.Takes .clear 3 f → s.ConditionsFlagged →
    ∃ t, exec (.clearFrame f) s = .next t ∧
      (let names (k : ChannelId) : Bool := (byteAt f.payload 2).getLsbD (channelNumber k) &&
         (decide ((s.ch.get k).state = .retryWait) || decide ((s.ch.get k).state = .latched))
       (∀ k, names k = true →
         t.ch.get k = { s.ch.get k with state := .driving, openMark := false, tripped := 0, retryTimer := none, history := [],
                                        command := (t.ch.get k).command, openTimer := (t.ch.get k).openTimer }) ∧
       (∀ k, names k = false →
         t.ch.get k = { s.ch.get k with command := (t.ch.get k).command, openTimer := (t.ch.get k).openTimer }) ∧
       ((∃ k, names k = true) → t.ChannelsComputed (fun k => if names k then none else (s.ch.get k).openTimer)) ∧
       ((∀ k, names k = false) → t.ch = s.ch) ∧
       (∀ g : Flag, t.fr.isSet g = true ↔
         t.condition g = true ∨ s.fr.isSet g = true ∧ (BitVec.ofNat 16 (fieldAt f.payload 0)).getLsbD g.position = false) ∧
       t.fr.mask = s.fr.mask ∧ t.ch.held = s.ch.held ∧ t.ch.pwmTimer = s.ch.pwmTimer ∧
       t = { s with lc := s.lineAfterFrame, ch := t.ch, fr := t.fr })

/-! ### The fault record -/

/-- R141: a flag, once set, stays set until a CLEAR naming it is taken while its condition is absent, or until a reset. -/
def Obligations.FlagsAreSticky : Prop :=
  ∀ (c : Instr) (s t : State) (g : Flag), exec c s = .next t → s.fr.isSet g = true →
    t.fr.isSet g = true ∨ t.le.station = .configuring ∨
      (t.condition g = false ∧
        ((∃ f, c = .clearFrame f ∧ (readClear f.payload).flags.getLsbD g.position = true) ∨
          ∃ ch, c = .characterReceived ch ∧ byteAt (s.lc.assembly ++ [ch.data]) 2 = 5 ∧
            (readClear ((s.lc.assembly ++ [ch.data]).drop 5)).flags.getLsbD g.position = true))

/-! ### The zone line -/

/-- R150, R151, R152, R153, R161: the checks of a whole frame in their order. A bad CRC or a wrong length is counted, the
lengths being 11, 5, 5, 3, 3, 0, 4 to 48 and 0 in the order LEVEL, PORTAL, OVERRIDE, TRIM, CLEAR, IDENT-REQ, IDENT, RESET; source 0 is
discarded; a valid frame lights ACT, whatever its destination, and raises ADDRESS_CONFLICT where its source is the station's own
address; nothing is heard in CONFIGURING or while sending. A frame command names one of the eight kinds, so the kind check of R151
is said of characters, in CharacterAssembled; a payload above 48 bytes ends at its length character and is counted (R150).
That a frame command passes these checks is deduced (log 7), and what one above 48 bytes stands for is the model's choice (log 12). -/
def Obligations.FrameChecksInOrder : Prop :=
  ∀ (s : State) (k : FrameKind) (f : Frame),
    (let good := f.payload.length ≤ 48 ∧ crc16 (f.dest :: f.src :: k.code :: f.tag :: BitVec.ofNat 8 f.payload.length :: f.payload) = f.crc
     let len := f.payload.length
     let fits : Prop := match k with
       | .level => len = 11
       | .portal => len = 5
       | .override => len = 5
       | .trim => len = 3
       | .clear => len = 3
       | .identReq => len = 0
       | .ident => 4 ≤ len ∧ len ≤ 48
       | .reset => len = 0
     let counted : State := { s with lc := { s.lineAfterNoise with crcErrors := min (s.lc.crcErrors + 1) 65535 } }
     (¬s.Hears → exec (frameCommand k f) s = .next s) ∧
     (s.Hears → ¬good → exec (frameCommand k f) s = .next counted) ∧
     (s.Hears → good → f.src = 0 → exec (frameCommand k f) s = .next { s with lc := s.lineAfterNoise }) ∧
     (s.Hears → good → f.src ≠ 0 → ¬fits → exec (frameCommand k f) s = .next counted) ∧
     (s.Hears → good → f.src ≠ 0 → fits → f.src = s.line.address →
       ∃ t, exec (frameCommand k f) s = .next t ∧ t.fr.flags = s.fr.flags ||| Flag.addressConflict.bit ∧ t.fr.mask = s.fr.mask ∧
         t = { s with lc := s.lineAfterFrame, fr := t.fr }) ∧
     (s.Hears → good → f.src ≠ 0 → fits → f.src ≠ s.line.address → ¬s.AddressedBy f.dest →
       exec (frameCommand k f) s = .next { s with lc := s.lineAfterFrame }))

/-- R149, R150, R164: a frame received character by character has the effect of the whole frame, whatever was assembled before it.
That a frame command carries the whole frame is deduced (log 7). -/
def Obligations.FrameByCharacters : Prop :=
  ∀ (s : State) (k : FrameKind) (f : Frame), f.payload.length ≤ 48 → s.Hears →
    execAll ((frameChars k f).map .characterReceived) s = exec (frameCommand k f) s

/-- R149, R150, R158: one character, while the station is not sending: a mark begins the assembly anew, another character is added or,
with nothing assembled, ignored; a length above 48 abandons the frame, counted where its kind is known. The line is busy and a
running access wait abandoned in every case. A whole frame of an unknown kind is discarded (R151): counted where its CRC fails, not
counted otherwise. The stop bit makes no difference, and CONFIGURING ignores everything. -/
def Obligations.CharacterAssembled : Prop :=
  ∀ (s : State) (c : LineChar),
    (s.le.station = .configuring → exec (.characterReceived c) s = .next s) ∧
    exec (.characterReceived c) s = exec (.characterReceived { c with stop := !c.stop }) s ∧
    (s.Hears → c.mark = true →
      exec (.characterReceived c) s = .next { s with lc := { s.lineAfterNoise with assembly := [c.data] } }) ∧
    (s.Hears → c.mark = false → s.lc.assembly = [] →
      exec (.characterReceived c) s = .next { s with lc := s.lineAfterNoise }) ∧
    (s.Hears → c.mark = false → 1 ≤ s.lc.assembly.length →
      (s.lc.assembly.length + 1 < 5 ∨
        5 ≤ s.lc.assembly.length + 1 ∧ (byteAt (s.lc.assembly ++ [c.data]) 4).toNat ≤ 48 ∧
          s.lc.assembly.length + 1 < 7 + (byteAt (s.lc.assembly ++ [c.data]) 4).toNat) →
      exec (.characterReceived c) s =
        .next { s with lc := { s.lineAfterNoise with assembly := s.lc.assembly ++ [c.data] } }) ∧
    (s.Hears → c.mark = false → s.lc.assembly.length = 4 → 48 < c.data.toNat →
      exec (.characterReceived c) s = .next { s with
        lc := { s.lineAfterNoise with
          crcErrors := if 1 ≤ (byteAt s.lc.assembly 2).toNat ∧ (byteAt s.lc.assembly 2).toNat ≤ 8
            then min (s.lc.crcErrors + 1) 65535 else s.lc.crcErrors } }) ∧
    (s.Hears → c.mark = false → 4 ≤ s.lc.assembly.length →
      (let bytes := s.lc.assembly ++ [c.data]
       let len := (byteAt bytes 4).toNat
       len ≤ 48 → bytes.length = 7 + len → (byteAt bytes 2 = 0 ∨ 8 < (byteAt bytes 2).toNat) →
       exec (.characterReceived c) s = .next { s with
         lc := { s.lineAfterNoise with
           crcErrors := if (crc16 (bytes.take (5 + len))).toNat = fieldAt bytes (5 + len) then s.lc.crcErrors
             else min (s.lc.crcErrors + 1) 65535 } }))

/-- R155, R168: an IDENT-REQ fills the IDENT slot with the station's capability chain, addressed to the requester: BASE always,
PHOTOMETER for a photometer station in LISTENING or RUNNING, CHANNELS in FALLBACK or with channels, POSITION in LISTENING or RUNNING, COUNTERS
always. -/
def Obligations.IdentReqAnswered : Prop :=
  ∀ (s : State) (f : Frame), s.Takes .identReq 0 f →
    s.ValuesInForce ∧ ∃ t, exec (.identReqFrame f) s = .next t ∧
      SlotFilled s.lineAfterFrame t.lc s.line s.now .ident
        { dest := f.src, kind := .ident, tag := 0,
          payload := s.chainOfR168 } ∧
      t = { s with lc := t.lc }

/-- R24, R165, R166, R167, R168, R169: what a station sends, a peer reads back: the fields of LEVEL, PORTAL and OVERRIDE payloads, each of the
length its kind requires, and the role from a whole capability chain of 4 to 48 bytes. Of any chain the records before the first that
runs past the end are used: the last whole PHOTOMETER record gives the side, any whole CHANNELS record the luminaire mark, other
records are skipped, and a chain without a whole record gives neither.
That a PHOTOMETER record without content gives side none is deduced (log 20). -/
def Obligations.ReportsReadBack : Prop :=
  (∀ p : LevelFields, p.delivered < 65536 → p.configured < 16 → p.healthy < 16 →
    (writeLevel p).length = 11 ∧
      readLevel (writeLevel p) = { delivered := p.delivered, restart := p.restart, configured := p.configured }) ∧
  (∀ p : PortalFields, p.luminance < 65536 →
    (writePortal p).length = 5 ∧
      readPortal (writePortal p) =
        { side := some p.side, luminance := p.luminance, sensorFault := p.sensorFault, restart := p.restart }) ∧
  (∀ kind level duration, level < 65536 → duration < 65536 →
    (writeOverride kind level duration).length = 5 ∧
      readOverride (writeOverride kind level duration) = { kind := some kind, level := level, duration := duration }) ∧
  (∀ s : State, s.le.station ≠ .configuring →
    4 ≤ s.identChain.length ∧ s.identChain.length ≤ 48 ∧
      readRole s.identChain =
        (if s.le.station.regulates then s.cfg.side else none, decide (s.le.station = .fallback ∨ 1 ≤ s.channelCount))) ∧
  (∀ (records : List (Byte × List Byte)) (rest : List Byte),
    (∀ r ∈ records, r.2.length < 256) → (rest.length < 2 ∨ rest.length < 2 + (byteAt rest 1).toNat) →
    readRole ((records.map fun r => r.1 :: BitVec.ofNat 8 r.2.length :: r.2).flatten ++ rest) =
      (((records.filter fun r => r.1 == 2).getLast?).bind fun r =>
          if byteAt r.2 0 = 1 then some .a else if byteAt r.2 0 = 2 then some .b else none,
        records.any fun r => r.1 == 3))

/-- R150, R158: after 4 character times of silence the line is idle, a partial frame is discarded, and an attempt starts for the first
occupied slot in the order OVERRIDE, PORTAL, LEVEL, IDENT, with an access wait of (S mod 8) + 8 × c character times.
Where the clock stands is the model's choice (log 2). -/
def Obligations.IdleLineStartsAttempt : Prop :=
  ∀ s : State, s.le.station ≠ .configuring → s.lc.idle = false → s.lc.attempt = none →
    (let char : Time := match s.line.rate with | .low => 5730 | .high => 1910
     let now := max s.now (s.lc.lastChar + 4 * char)
     ∃ t, exec .lineIdle s = .next t ∧
      t.lc = { s.lc with idle := true, assembly := [], attempt := t.lc.attempt } ∧
      ((∀ k, (s.lc.slots.get k).content = none) → t.lc.attempt = none) ∧
      (∀ k c, (s.lc.slots.get k).content = some c → (∀ j, j.rank < k.rank → (s.lc.slots.get j).content = none) →
        t.lc.attempt = some { slot := k, content := c, refilled := false,
                              phase := .waiting (now + (s.line.address.toNat % 8 + 8 * (s.lc.slots.get k).attempts) * char) }) ∧
      t = { s with now := now, lc := t.lc })

/-- R157, R159, R161: the access wait's expiry starts the sending, not before a guard has ended; when the last character has come back
the slot is emptied, or refilled where a newer content came meanwhile, RESTART pending ends for PORTAL and LEVEL, ACT lights and the
line is released. R149: ZDE is high exactly while sending; ZTX then carries the bits of the character whose time it is, and is held
at 1 otherwise.
Where the clock stands is the model's choice (log 2), and that the guard delays the wait is deduced (log 21); the bits of ZTX are
taken as elevenths of a character time (log 23), and every pin is low without supply (log 10). -/
def Obligations.AttemptSendsContent : Prop :=
  (∀ s : State, s.powered = true → s.lc.attempt = none → s.zde = false ∧ s.ztx = true) ∧
  ∀ (s : State) (a : Attempt), s.lc.attempt = some a →
    (let char : Time := match s.line.rate with | .low => 5730 | .high => 1910
     (s.powered = true → ∀ due, a.phase = .waiting due → s.zde = false ∧ s.ztx = true) ∧
     (s.powered = true → ∀ start sent, a.phase = .sending start sent → s.zde = true ∧
       ∀ (i elapsed : Nat) (c : LineChar), (a.content.chars s.line.address)[i]? = some c →
         s.now = start + i * char + elapsed → elapsed < char →
         (elapsed * 11 < char → s.ztx = false) ∧
         (∀ j < 8, (j + 1) * char ≤ elapsed * 11 → elapsed * 11 < (j + 2) * char → s.ztx = c.data.getLsbD j) ∧
         (9 * char ≤ elapsed * 11 → elapsed * 11 < 10 * char → s.ztx = c.mark) ∧
         (10 * char ≤ elapsed * 11 → s.ztx = true)) ∧
     (∀ due, a.phase = .waiting due →
       exec .accessWaitExpiry s = .next { s with
         now := max s.now (max due (s.lc.guardTimer.getD 0)),
         lc := { s.lc with
           assembly := [], guardTimer := none,
           attempt := some { a with phase := .sending (max s.now (max due (s.lc.guardTimer.getD 0))) 0 } } }) ∧
     (∀ start sent, a.phase = .sending start sent →
       ∃ t, exec .contentSent s = .next t ∧
         (let now := max s.now (start + (7 + a.content.payload.length) * char)
          (t.lc.slots.get a.slot =
            { content := if a.refilled then (s.lc.slots.get a.slot).content else none, attempts := 0 }) ∧
          (∀ k, k ≠ a.slot → t.lc.slots.get k = s.lc.slots.get k) ∧
          t.lc = { s.lc with slots := t.lc.slots, attempt := none, idle := false, lastChar := now,
                             guardTimer := some (now + char),
                             act := match s.lc.act with
                               | .dark => .lit (now + 800000)
                               | .lit due => .lit due
                               | .guarding due => .guarding due } ∧
          t.pfe = (if a.slot = .portal then { s.pfe with restartPending := false } else s.pfe) ∧
          t.le = (if a.slot = .level then { s.le with restartPending := false } else s.le) ∧
          t.zde = false ∧ t.ztx = s.powered ∧
          t = { s with now := now, lc := t.lc, pfe := t.pfe, le := t.le })))

/-- R159, R164: the read-back decides an attempt. When every character sent comes back unchanged, taking them one by one is the
sending of the content; a character that differs in data or mark is a collision.
That CHARACTER_RECEIVED is then the read-back is deduced (log 8). -/
def Obligations.ReadBackDecidesAttempt : Prop :=
  ∀ (s : State) (a : Attempt) (start : Time), s.le.station ≠ .configuring → s.lc.attempt = some a →
    (a.phase = .sending start 0 →
      execAll ((a.content.chars s.line.address).map .characterReceived) s = exec .contentSent s) ∧
    (∀ (sent : Nat) (mine heard : LineChar), a.phase = .sending start sent →
      (a.content.chars s.line.address)[sent]? = some mine → (heard.data ≠ mine.data ∨ heard.mark ≠ mine.mark) →
      exec (.characterReceived heard) s = exec .collision s)

/-- R159, R160: a collision releases the line and adds to the slot's attempt count; the eighth drops the content: the slot is emptied or
takes the newer content, the drop is counted and COLLISION_LIMIT set. ZDE is then low and ZTX at 1 (R149).
Where the clock stands is the model's choice (log 2), and which character collides is deduced (log 8); every pin is low without
supply (log 10). -/
def Obligations.CollisionRetriesThenDrops : Prop :=
  ∀ (s : State) (a : Attempt) (start : Time) (sent : Nat), s.lc.attempt = some a → a.phase = .sending start sent →
    ∃ t, exec .collision s = .next t ∧
      (let char : Time := match s.line.rate with | .low => 5730 | .high => 1910
       let now := max s.now (start + (sent + 1) * char)
       let x := s.lc.slots.get a.slot
       t.lc = { s.lc with slots := t.lc.slots, attempt := none, idle := false, lastChar := now, guardTimer := some (now + char),
                          collisionDrops := t.lc.collisionDrops } ∧
       (∀ k, k ≠ a.slot → t.lc.slots.get k = s.lc.slots.get k) ∧
       (x.attempts + 1 < 8 →
         t.lc.slots.get a.slot = { x with attempts := x.attempts + 1 } ∧ t.lc.collisionDrops = s.lc.collisionDrops ∧ t.fr = s.fr) ∧
       (8 ≤ x.attempts + 1 →
         t.lc.slots.get a.slot = { content := if a.refilled then x.content else none, attempts := 0 } ∧
         t.lc.collisionDrops = min (s.lc.collisionDrops + 1) 65535 ∧ t.fr.flags = s.fr.flags ||| Flag.collisionLimit.bit) ∧
       t.zde = false ∧ t.ztx = s.powered ∧ t.fr.mask = s.fr.mask ∧
       t = { s with now := now, lc := t.lc, fr := t.fr })

/-- R159, R161: the turnaround guard's expiry only ends the guard; the ACT timer's expiry ends the 40 ms of LIT with ACT dark and 60 ms
of GUARD, and GUARD in DARK.
Where the clock stands is the model's choice (log 2). -/
def Obligations.GuardAndActTimers : Prop :=
  ∀ (s : State) (due : Time),
    (s.lc.guardTimer = some due →
      exec .turnaroundGuardExpiry s = .next { s with now := max s.now due, lc := { s.lc with guardTimer := none } }) ∧
    (s.lc.act = .lit due →
      ∃ t, exec .actTimerExpiry s = .next t ∧ t.actPin = false ∧
        t = { s with now := max s.now due, lc := { s.lc with act := .guarding (max s.now due + 1200000) } }) ∧
    (s.lc.act = .guarding due →
      exec .actTimerExpiry s = .next { s with now := max s.now due, lc := { s.lc with act := .dark } })

/-! ### Invariants that every step keeps -/

/-- R139, R141, R144: every step keeps ALARM asserted exactly when a flag enabled in the mask is set, and the flag of every condition
present set. -/
def Obligations.StepKeepsFaultRecord : Prop :=
  ∀ s t : State, s.AlarmFollowsFlags → s.ConditionsFlagged → step s = .next t → t.AlarmFollowsFlags ∧ t.ConditionsFlagged

/-- R21, R101, R147, R150, R157: every step keeps the peer table, the override list and the line controller within the limits the spec
gives them. -/
def Obligations.StepKeepsTablesAndLine : Prop :=
  ∀ s t : State, s.TableSound → s.ListSound → s.LineSound → step s = .next t → t.TableSound ∧ t.ListSound ∧ t.LineSound

/-- R1, R7, R54, R84, R120, R126, R129, R132: every step keeps the output level, the channels, the photometer front end and the trim
within the limits the spec gives them; and the lock-down, once engaged, stays engaged until a power-on or RSTN reset.
That the loss of the supply, too, releases the lock-down is the model's choice (log 10). -/
def Obligations.StepKeepsOutputAndFrontEnd : Prop :=
  (∀ s t : State, s.OutputSound → s.FrontEndSound → step s = .next t → t.OutputSound ∧ t.FrontEndSound) ∧
  (∀ s t : State, s.TrimSound → step s = .next t → t.TrimSound) ∧
  (∀ s t : State, s.dc.lockDown = true → step s = .next t → t.dc.lockDown = true ∨
    ∃ c, s.pending.head? = some c ∧ (c = .powerUp ∨ c = .powerLoss ∨ c = .rstnAssert ∨ c = .rstnRelease))

/-- Every invariant holds right after a reset. The trim value before the read is the model's choice (log 11). -/
def Obligations.ResetIsSound : Prop :=
  State.reset.AlarmFollowsFlags ∧ State.reset.ConditionsFlagged ∧ State.reset.TableSound ∧ State.reset.ListSound ∧
    State.reset.LineSound ∧ State.reset.OutputSound ∧ State.reset.FrontEndSound ∧
    State.reset.TrimSound
end

