-- ==== Sys2Proof/Laws/State.lean ====
section
/-! SUPPORT. The small lemmas of the named updates of State: one per field per update, each true by rfl. -/

namespace Sys2Proof.Machine

variable (s : State)

/-! ### elapse -/

@[simp] theorem State.elapse_now (d : Time) : (s.elapse d).now = s.now + d := rfl
@[simp] theorem State.elapse_powered (d : Time) : (s.elapse d).powered = s.powered := rfl
@[simp] theorem State.elapse_rstnLow (d : Time) : (s.elapse d).rstnLow = s.rstnLow := rfl
@[simp] theorem State.elapse_fullinClosed (d : Time) : (s.elapse d).fullinClosed = s.fullinClosed := rfl
@[simp] theorem State.elapse_phinInBand (d : Time) : (s.elapse d).phinInBand = s.phinInBand := rfl
@[simp] theorem State.elapse_cl (d : Time) : (s.elapse d).cl = s.cl := rfl
@[simp] theorem State.elapse_pfe (d : Time) : (s.elapse d).pfe = s.pfe := rfl
@[simp] theorem State.elapse_pt (d : Time) : (s.elapse d).pt = s.pt := rfl
@[simp] theorem State.elapse_pa (d : Time) : (s.elapse d).pa = s.pa := rfl
@[simp] theorem State.elapse_dc (d : Time) : (s.elapse d).dc = s.dc := rfl
@[simp] theorem State.elapse_le (d : Time) : (s.elapse d).le = s.le := rfl
@[simp] theorem State.elapse_ol (d : Time) : (s.elapse d).ol = s.ol := rfl
@[simp] theorem State.elapse_ch (d : Time) : (s.elapse d).ch = s.ch := rfl
@[simp] theorem State.elapse_lc (d : Time) : (s.elapse d).lc = s.lc := rfl
@[simp] theorem State.elapse_fr (d : Time) : (s.elapse d).fr = s.fr := rfl
@[simp] theorem State.elapse_pending (d : Time) : (s.elapse d).pending = s.pending := rfl

/-! ### elapseTo -/

@[simp] theorem State.elapseTo_now (t : Time) : (s.elapseTo t).now = max s.now t := rfl
@[simp] theorem State.elapseTo_powered (t : Time) : (s.elapseTo t).powered = s.powered := rfl
@[simp] theorem State.elapseTo_rstnLow (t : Time) : (s.elapseTo t).rstnLow = s.rstnLow := rfl
@[simp] theorem State.elapseTo_fullinClosed (t : Time) : (s.elapseTo t).fullinClosed = s.fullinClosed := rfl
@[simp] theorem State.elapseTo_phinInBand (t : Time) : (s.elapseTo t).phinInBand = s.phinInBand := rfl
@[simp] theorem State.elapseTo_cl (t : Time) : (s.elapseTo t).cl = s.cl := rfl
@[simp] theorem State.elapseTo_pfe (t : Time) : (s.elapseTo t).pfe = s.pfe := rfl
@[simp] theorem State.elapseTo_pt (t : Time) : (s.elapseTo t).pt = s.pt := rfl
@[simp] theorem State.elapseTo_pa (t : Time) : (s.elapseTo t).pa = s.pa := rfl
@[simp] theorem State.elapseTo_dc (t : Time) : (s.elapseTo t).dc = s.dc := rfl
@[simp] theorem State.elapseTo_le (t : Time) : (s.elapseTo t).le = s.le := rfl
@[simp] theorem State.elapseTo_ol (t : Time) : (s.elapseTo t).ol = s.ol := rfl
@[simp] theorem State.elapseTo_ch (t : Time) : (s.elapseTo t).ch = s.ch := rfl
@[simp] theorem State.elapseTo_lc (t : Time) : (s.elapseTo t).lc = s.lc := rfl
@[simp] theorem State.elapseTo_fr (t : Time) : (s.elapseTo t).fr = s.fr := rfl
@[simp] theorem State.elapseTo_pending (t : Time) : (s.elapseTo t).pending = s.pending := rfl

/-! ### raiseIf -/

@[simp] theorem State.raiseIf_now (b : Bool) (f : Flag) : (s.raiseIf b f).now = s.now := rfl
@[simp] theorem State.raiseIf_powered (b : Bool) (f : Flag) : (s.raiseIf b f).powered = s.powered := rfl
@[simp] theorem State.raiseIf_rstnLow (b : Bool) (f : Flag) : (s.raiseIf b f).rstnLow = s.rstnLow := rfl
@[simp] theorem State.raiseIf_fullinClosed (b : Bool) (f : Flag) : (s.raiseIf b f).fullinClosed = s.fullinClosed := rfl
@[simp] theorem State.raiseIf_phinInBand (b : Bool) (f : Flag) : (s.raiseIf b f).phinInBand = s.phinInBand := rfl
@[simp] theorem State.raiseIf_cl (b : Bool) (f : Flag) : (s.raiseIf b f).cl = s.cl := rfl
@[simp] theorem State.raiseIf_pfe (b : Bool) (f : Flag) : (s.raiseIf b f).pfe = s.pfe := rfl
@[simp] theorem State.raiseIf_pt (b : Bool) (f : Flag) : (s.raiseIf b f).pt = s.pt := rfl
@[simp] theorem State.raiseIf_pa (b : Bool) (f : Flag) : (s.raiseIf b f).pa = s.pa := rfl
@[simp] theorem State.raiseIf_dc (b : Bool) (f : Flag) : (s.raiseIf b f).dc = s.dc := rfl
@[simp] theorem State.raiseIf_le (b : Bool) (f : Flag) : (s.raiseIf b f).le = s.le := rfl
@[simp] theorem State.raiseIf_ol (b : Bool) (f : Flag) : (s.raiseIf b f).ol = s.ol := rfl
@[simp] theorem State.raiseIf_ch (b : Bool) (f : Flag) : (s.raiseIf b f).ch = s.ch := rfl
@[simp] theorem State.raiseIf_lc (b : Bool) (f : Flag) : (s.raiseIf b f).lc = s.lc := rfl
@[simp] theorem State.raiseIf_fr (b : Bool) (f : Flag) : (s.raiseIf b f).fr = s.fr.raiseIf b f := rfl
@[simp] theorem State.raiseIf_pending (b : Bool) (f : Flag) : (s.raiseIf b f).pending = s.pending := rfl

/-! ### setChannel -/

@[simp] theorem State.setChannel_now (k : ChannelId) (c : Channel) : (s.setChannel k c).now = s.now := rfl
@[simp] theorem State.setChannel_powered (k : ChannelId) (c : Channel) : (s.setChannel k c).powered = s.powered := rfl
@[simp] theorem State.setChannel_rstnLow (k : ChannelId) (c : Channel) : (s.setChannel k c).rstnLow = s.rstnLow := rfl
@[simp] theorem State.setChannel_fullinClosed (k : ChannelId) (c : Channel) : (s.setChannel k c).fullinClosed = s.fullinClosed := rfl
@[simp] theorem State.setChannel_phinInBand (k : ChannelId) (c : Channel) : (s.setChannel k c).phinInBand = s.phinInBand := rfl
@[simp] theorem State.setChannel_cl (k : ChannelId) (c : Channel) : (s.setChannel k c).cl = s.cl := rfl
@[simp] theorem State.setChannel_pfe (k : ChannelId) (c : Channel) : (s.setChannel k c).pfe = s.pfe := rfl
@[simp] theorem State.setChannel_pt (k : ChannelId) (c : Channel) : (s.setChannel k c).pt = s.pt := rfl
@[simp] theorem State.setChannel_pa (k : ChannelId) (c : Channel) : (s.setChannel k c).pa = s.pa := rfl
@[simp] theorem State.setChannel_dc (k : ChannelId) (c : Channel) : (s.setChannel k c).dc = s.dc := rfl
@[simp] theorem State.setChannel_le (k : ChannelId) (c : Channel) : (s.setChannel k c).le = s.le := rfl
@[simp] theorem State.setChannel_ol (k : ChannelId) (c : Channel) : (s.setChannel k c).ol = s.ol := rfl
@[simp] theorem State.setChannel_ch (k : ChannelId) (c : Channel) : (s.setChannel k c).ch = s.ch.set k c := rfl
@[simp] theorem State.setChannel_lc (k : ChannelId) (c : Channel) : (s.setChannel k c).lc = s.lc := rfl
@[simp] theorem State.setChannel_fr (k : ChannelId) (c : Channel) : (s.setChannel k c).fr = s.fr := rfl
@[simp] theorem State.setChannel_pending (k : ChannelId) (c : Channel) : (s.setChannel k c).pending = s.pending := rfl

/-! ### computeCommands -/

@[simp] theorem State.computeCommands_now : (s.computeCommands).now = s.now := rfl
@[simp] theorem State.computeCommands_powered : (s.computeCommands).powered = s.powered := rfl
@[simp] theorem State.computeCommands_rstnLow : (s.computeCommands).rstnLow = s.rstnLow := rfl
@[simp] theorem State.computeCommands_fullinClosed : (s.computeCommands).fullinClosed = s.fullinClosed := rfl
@[simp] theorem State.computeCommands_phinInBand : (s.computeCommands).phinInBand = s.phinInBand := rfl
@[simp] theorem State.computeCommands_cl : (s.computeCommands).cl = s.cl := rfl
@[simp] theorem State.computeCommands_pfe : (s.computeCommands).pfe = s.pfe := rfl
@[simp] theorem State.computeCommands_pt : (s.computeCommands).pt = s.pt := rfl
@[simp] theorem State.computeCommands_pa : (s.computeCommands).pa = s.pa := rfl
@[simp] theorem State.computeCommands_dc : (s.computeCommands).dc = s.dc := rfl
@[simp] theorem State.computeCommands_le : (s.computeCommands).le = s.le := rfl
@[simp] theorem State.computeCommands_ol : (s.computeCommands).ol = s.ol := rfl
@[simp] theorem State.computeCommands_ch : (s.computeCommands).ch = s.ch.computed s.le.station s.channelCount s.now := rfl
@[simp] theorem State.computeCommands_lc : (s.computeCommands).lc = s.lc := rfl
@[simp] theorem State.computeCommands_fr : (s.computeCommands).fr = s.fr.raiseChannels (s.ch.computed s.le.station s.channelCount s.now) := rfl
@[simp] theorem State.computeCommands_pending : (s.computeCommands).pending = s.pending := rfl

/-! ### fillSlot -/

@[simp] theorem State.fillSlot_now (k : SlotId) (c : Content) : (s.fillSlot k c).now = s.now := rfl
@[simp] theorem State.fillSlot_powered (k : SlotId) (c : Content) : (s.fillSlot k c).powered = s.powered := rfl
@[simp] theorem State.fillSlot_rstnLow (k : SlotId) (c : Content) : (s.fillSlot k c).rstnLow = s.rstnLow := rfl
@[simp] theorem State.fillSlot_fullinClosed (k : SlotId) (c : Content) : (s.fillSlot k c).fullinClosed = s.fullinClosed := rfl
@[simp] theorem State.fillSlot_phinInBand (k : SlotId) (c : Content) : (s.fillSlot k c).phinInBand = s.phinInBand := rfl
@[simp] theorem State.fillSlot_cl (k : SlotId) (c : Content) : (s.fillSlot k c).cl = s.cl := rfl
@[simp] theorem State.fillSlot_pfe (k : SlotId) (c : Content) : (s.fillSlot k c).pfe = s.pfe := rfl
@[simp] theorem State.fillSlot_pt (k : SlotId) (c : Content) : (s.fillSlot k c).pt = s.pt := rfl
@[simp] theorem State.fillSlot_pa (k : SlotId) (c : Content) : (s.fillSlot k c).pa = s.pa := rfl
@[simp] theorem State.fillSlot_dc (k : SlotId) (c : Content) : (s.fillSlot k c).dc = s.dc := rfl
@[simp] theorem State.fillSlot_le (k : SlotId) (c : Content) : (s.fillSlot k c).le = s.le := rfl
@[simp] theorem State.fillSlot_ol (k : SlotId) (c : Content) : (s.fillSlot k c).ol = s.ol := rfl
@[simp] theorem State.fillSlot_ch (k : SlotId) (c : Content) : (s.fillSlot k c).ch = s.ch := rfl
@[simp] theorem State.fillSlot_lc (k : SlotId) (c : Content) : (s.fillSlot k c).lc = s.lc.fill k c s.line s.now := rfl
@[simp] theorem State.fillSlot_fr (k : SlotId) (c : Content) : (s.fillSlot k c).fr = s.fr := rfl
@[simp] theorem State.fillSlot_pending (k : SlotId) (c : Content) : (s.fillSlot k c).pending = s.pending := rfl

/-! ### withAssembly -/

@[simp] theorem State.withAssembly_now (b : List Byte) : (s.withAssembly b).now = s.now := rfl
@[simp] theorem State.withAssembly_powered (b : List Byte) : (s.withAssembly b).powered = s.powered := rfl
@[simp] theorem State.withAssembly_rstnLow (b : List Byte) : (s.withAssembly b).rstnLow = s.rstnLow := rfl
@[simp] theorem State.withAssembly_fullinClosed (b : List Byte) : (s.withAssembly b).fullinClosed = s.fullinClosed := rfl
@[simp] theorem State.withAssembly_phinInBand (b : List Byte) : (s.withAssembly b).phinInBand = s.phinInBand := rfl
@[simp] theorem State.withAssembly_cl (b : List Byte) : (s.withAssembly b).cl = s.cl := rfl
@[simp] theorem State.withAssembly_pfe (b : List Byte) : (s.withAssembly b).pfe = s.pfe := rfl
@[simp] theorem State.withAssembly_pt (b : List Byte) : (s.withAssembly b).pt = s.pt := rfl
@[simp] theorem State.withAssembly_pa (b : List Byte) : (s.withAssembly b).pa = s.pa := rfl
@[simp] theorem State.withAssembly_dc (b : List Byte) : (s.withAssembly b).dc = s.dc := rfl
@[simp] theorem State.withAssembly_le (b : List Byte) : (s.withAssembly b).le = s.le := rfl
@[simp] theorem State.withAssembly_ol (b : List Byte) : (s.withAssembly b).ol = s.ol := rfl
@[simp] theorem State.withAssembly_ch (b : List Byte) : (s.withAssembly b).ch = s.ch := rfl
@[simp] theorem State.withAssembly_lc (b : List Byte) : (s.withAssembly b).lc = { s.lc with assembly := b } := rfl
@[simp] theorem State.withAssembly_fr (b : List Byte) : (s.withAssembly b).fr = s.fr := rfl
@[simp] theorem State.withAssembly_pending (b : List Byte) : (s.withAssembly b).pending = s.pending := rfl

/-! ### countCrcError -/

@[simp] theorem State.countCrcError_now : (s.countCrcError).now = s.now := rfl
@[simp] theorem State.countCrcError_powered : (s.countCrcError).powered = s.powered := rfl
@[simp] theorem State.countCrcError_rstnLow : (s.countCrcError).rstnLow = s.rstnLow := rfl
@[simp] theorem State.countCrcError_fullinClosed : (s.countCrcError).fullinClosed = s.fullinClosed := rfl
@[simp] theorem State.countCrcError_phinInBand : (s.countCrcError).phinInBand = s.phinInBand := rfl
@[simp] theorem State.countCrcError_cl : (s.countCrcError).cl = s.cl := rfl
@[simp] theorem State.countCrcError_pfe : (s.countCrcError).pfe = s.pfe := rfl
@[simp] theorem State.countCrcError_pt : (s.countCrcError).pt = s.pt := rfl
@[simp] theorem State.countCrcError_pa : (s.countCrcError).pa = s.pa := rfl
@[simp] theorem State.countCrcError_dc : (s.countCrcError).dc = s.dc := rfl
@[simp] theorem State.countCrcError_le : (s.countCrcError).le = s.le := rfl
@[simp] theorem State.countCrcError_ol : (s.countCrcError).ol = s.ol := rfl
@[simp] theorem State.countCrcError_ch : (s.countCrcError).ch = s.ch := rfl
@[simp] theorem State.countCrcError_lc : (s.countCrcError).lc = { s.lc with crcErrors := min (s.lc.crcErrors + 1) 65535 } := rfl
@[simp] theorem State.countCrcError_fr : (s.countCrcError).fr = s.fr := rfl
@[simp] theorem State.countCrcError_pending : (s.countCrcError).pending = s.pending := rfl

/-! ### lightAct -/

@[simp] theorem State.lightAct_now : (s.lightAct).now = s.now := rfl
@[simp] theorem State.lightAct_powered : (s.lightAct).powered = s.powered := rfl
@[simp] theorem State.lightAct_rstnLow : (s.lightAct).rstnLow = s.rstnLow := rfl
@[simp] theorem State.lightAct_fullinClosed : (s.lightAct).fullinClosed = s.fullinClosed := rfl
@[simp] theorem State.lightAct_phinInBand : (s.lightAct).phinInBand = s.phinInBand := rfl
@[simp] theorem State.lightAct_cl : (s.lightAct).cl = s.cl := rfl
@[simp] theorem State.lightAct_pfe : (s.lightAct).pfe = s.pfe := rfl
@[simp] theorem State.lightAct_pt : (s.lightAct).pt = s.pt := rfl
@[simp] theorem State.lightAct_pa : (s.lightAct).pa = s.pa := rfl
@[simp] theorem State.lightAct_dc : (s.lightAct).dc = s.dc := rfl
@[simp] theorem State.lightAct_le : (s.lightAct).le = s.le := rfl
@[simp] theorem State.lightAct_ol : (s.lightAct).ol = s.ol := rfl
@[simp] theorem State.lightAct_ch : (s.lightAct).ch = s.ch := rfl
@[simp] theorem State.lightAct_lc : (s.lightAct).lc = { s.lc with act := s.lc.act.lightened s.now } := rfl
@[simp] theorem State.lightAct_fr : (s.lightAct).fr = s.fr := rfl
@[simp] theorem State.lightAct_pending : (s.lightAct).pending = s.pending := rfl

/-! ### changeEntry -/

@[simp] theorem State.changeEntry_now (a : Byte) (g : Entry → Entry) : (s.changeEntry a g).now = s.now := rfl
@[simp] theorem State.changeEntry_powered (a : Byte) (g : Entry → Entry) : (s.changeEntry a g).powered = s.powered := rfl
@[simp] theorem State.changeEntry_rstnLow (a : Byte) (g : Entry → Entry) : (s.changeEntry a g).rstnLow = s.rstnLow := rfl
@[simp] theorem State.changeEntry_fullinClosed (a : Byte) (g : Entry → Entry) : (s.changeEntry a g).fullinClosed = s.fullinClosed := rfl
@[simp] theorem State.changeEntry_phinInBand (a : Byte) (g : Entry → Entry) : (s.changeEntry a g).phinInBand = s.phinInBand := rfl
@[simp] theorem State.changeEntry_cl (a : Byte) (g : Entry → Entry) : (s.changeEntry a g).cl = s.cl := rfl
@[simp] theorem State.changeEntry_pfe (a : Byte) (g : Entry → Entry) : (s.changeEntry a g).pfe = s.pfe := rfl
@[simp] theorem State.changeEntry_pa (a : Byte) (g : Entry → Entry) : (s.changeEntry a g).pa = s.pa := rfl
@[simp] theorem State.changeEntry_dc (a : Byte) (g : Entry → Entry) : (s.changeEntry a g).dc = s.dc := rfl
@[simp] theorem State.changeEntry_le (a : Byte) (g : Entry → Entry) : (s.changeEntry a g).le = s.le := rfl
@[simp] theorem State.changeEntry_ol (a : Byte) (g : Entry → Entry) : (s.changeEntry a g).ol = s.ol := rfl
@[simp] theorem State.changeEntry_ch (a : Byte) (g : Entry → Entry) : (s.changeEntry a g).ch = s.ch := rfl
@[simp] theorem State.changeEntry_lc (a : Byte) (g : Entry → Entry) : (s.changeEntry a g).lc = s.lc := rfl
@[simp] theorem State.changeEntry_fr (a : Byte) (g : Entry → Entry) : (s.changeEntry a g).fr = s.fr := rfl
@[simp] theorem State.changeEntry_pending (a : Byte) (g : Entry → Entry) : (s.changeEntry a g).pending = s.pending := rfl
@[simp] theorem State.changeEntry_pt (a : Byte) (g : Entry → Entry) :
    (s.changeEntry a g).pt = { s.pt with entries := updateEntry s.pt.entries a g } := rfl

/-! ### Readings that an update leaves alone -/

@[simp] theorem State.elapse_line (d : Time) : (s.elapse d).line = s.line := rfl
@[simp] theorem State.elapse_cfg (d : Time) : (s.elapse d).cfg = s.cfg := rfl
@[simp] theorem State.elapseTo_line (t : Time) : (s.elapseTo t).line = s.line := rfl
@[simp] theorem State.elapseTo_cfg (t : Time) : (s.elapseTo t).cfg = s.cfg := rfl
@[simp] theorem State.elapseTo_pfeOn (t : Time) : (s.elapseTo t).pfeOn = s.pfeOn := rfl
@[simp] theorem State.elapseTo_reportPeriod (t : Time) : (s.elapseTo t).reportPeriod = s.reportPeriod := rfl
@[simp] theorem State.elapseTo_channelCount (t : Time) : (s.elapseTo t).channelCount = s.channelCount := rfl
@[simp] theorem State.changeEntry_cfg (a : Byte) (g : Entry → Entry) : (s.changeEntry a g).cfg = s.cfg := rfl
@[simp] theorem State.changeEntry_line (a : Byte) (g : Entry → Entry) : (s.changeEntry a g).line = s.line := rfl
@[simp] theorem State.raiseIf_cfg (b : Bool) (f : Flag) : (s.raiseIf b f).cfg = s.cfg := rfl
@[simp] theorem State.raiseIf_line (b : Bool) (f : Flag) : (s.raiseIf b f).line = s.line := rfl
@[simp] theorem State.computeCommands_cfg : s.computeCommands.cfg = s.cfg := rfl
@[simp] theorem State.computeCommands_line : s.computeCommands.line = s.line := rfl
@[simp] theorem State.fillSlot_cfg (k : SlotId) (c : Content) : (s.fillSlot k c).cfg = s.cfg := rfl

end Sys2Proof.Machine
end

