-- ==== Sys2Proof/Laws/Flags.lean ====
section
/-! SUPPORT. The fault record, operation by operation: which flag is set afterwards, and that ALARM follows the flags (R139 to R144). -/

namespace Sys2Proof.Machine

theorem Flag.position_lt (f : Flag) : f.position < 13 := by cases f <;> decide

theorem Flag.exists_of_lt (i : Nat) (h : i < 13) : ∃ f : Flag, f.position = i := by
  have : ∀ i : Fin 13, ∃ f ∈ allFlags, f.position = i.val := by decide
  obtain ⟨f, _, hf⟩ := this ⟨i, h⟩
  exact ⟨f, hf⟩

theorem bits_ne_zero_iff (x : BitVec 13) : (x != 0) = true ↔ ∃ f : Flag, x.getLsbD f.position = true := by
  simp only [bne_iff_ne, ne_eq]
  constructor
  · intro h
    by_contra hc
    apply h
    apply BitVec.eq_of_getLsbD_eq
    intro i hi
    obtain ⟨f, hf⟩ := Flag.exists_of_lt i hi
    have : x.getLsbD f.position ≠ true := fun e => hc ⟨f, e⟩
    simpa [hf] using this
  · rintro ⟨f, hf⟩ rfl
    simp at hf

theorem FaultRecord.withFlags_alarm (fr : FaultRecord) (fl : BitVec 13) :
    (fr.withFlags fl).alarm = true ↔ ∃ f : Flag, fl.getLsbD f.position = true ∧ fr.mask.getLsbD f.position = true := by
  rw [FaultRecord.withFlags, bits_ne_zero_iff]; simp

theorem Flag.bit_getLsbD (f g : Flag) : f.bit.getLsbD g.position = decide (f = g) := by
  cases f <;> cases g <;> decide

/-- ALARM is asserted exactly when a flag enabled in the mask is set (R141), said of the record alone. -/
def FaultRecord.Follows (fr : FaultRecord) : Prop :=
  fr.alarm = true ↔ ∃ f : Flag, fr.flags.getLsbD f.position = true ∧ fr.mask.getLsbD f.position = true

theorem FaultRecord.withFlags_follows (fr : FaultRecord) (fl) : (fr.withFlags fl).Follows := fr.withFlags_alarm fl
theorem FaultRecord.raiseIf_follows {fr : FaultRecord} (h : fr.Follows) (b f) : (fr.raiseIf b f).Follows := by
  unfold FaultRecord.raiseIf; split
  · exact withFlags_follows _ _
  · exact h
theorem FaultRecord.withMask_follows (fr : FaultRecord) (m) : (fr.withMask m).Follows := by
  show ((fr.flags &&& m != 0) = true ↔ _)
  rw [bits_ne_zero_iff]; simp [FaultRecord.withMask]
theorem FaultRecord.isSet_withFlags (fr : FaultRecord) (fl f) : (fr.withFlags fl).isSet f = fl.getLsbD f.position := rfl
theorem FaultRecord.isSet_raiseIf (fr : FaultRecord) (b f g) : (fr.raiseIf b f).isSet g = (fr.isSet g || (b && decide (f = g))) := by
  unfold FaultRecord.raiseIf; split <;> simp_all [FaultRecord.isSet, FaultRecord.withFlags, Flag.bit_getLsbD]
theorem FaultRecord.raiseIf_mask (fr : FaultRecord) (b f) : (fr.raiseIf b f).mask = fr.mask := by
  unfold FaultRecord.raiseIf; split <;> rfl

theorem State.conditions_getLsbD (s : State) (f : Flag) : s.conditions.getLsbD f.position = s.condition f := by
  have step (acc : BitVec 13) (g : Flag) : (if s.condition g then acc ||| g.bit else acc).getLsbD f.position
      = (acc.getLsbD f.position || (s.condition g && decide (g = f))) := by
    split <;> simp_all [Flag.bit_getLsbD]
  simp only [State.conditions, allFlags, List.foldl_cons, List.foldl_nil, step]
  cases f <;> simp

theorem FaultRecord.isSet_clearFlags (fr : FaultRecord) (n p : BitVec 13) (f : Flag) :
  (fr.clearFlags n p).isSet f = (fr.isSet f && !(n.getLsbD f.position && !p.getLsbD f.position)) := by
  simp [FaultRecord.clearFlags, FaultRecord.isSet, FaultRecord.withFlags, f.position_lt]
end Sys2Proof.Machine
end

