-- ==== Sys2Proof/Laws/Frames.lean ====
section
/-! SUPPORT. Frames: for every operation of the machine, the fields of State that it leaves alone. -/

namespace Sys2Proof.Machine

variable (s : State)

/-! ### handOver: writes ch, fr -/

@[simp] theorem State.handOver_now (l : Nat) : (s.handOver l).now = s.now := rfl
@[simp] theorem State.handOver_powered (l : Nat) : (s.handOver l).powered = s.powered := rfl
@[simp] theorem State.handOver_rstnLow (l : Nat) : (s.handOver l).rstnLow = s.rstnLow := rfl
@[simp] theorem State.handOver_fullinClosed (l : Nat) : (s.handOver l).fullinClosed = s.fullinClosed := rfl
@[simp] theorem State.handOver_phinInBand (l : Nat) : (s.handOver l).phinInBand = s.phinInBand := rfl
@[simp] theorem State.handOver_cl (l : Nat) : (s.handOver l).cl = s.cl := rfl
@[simp] theorem State.handOver_pfe (l : Nat) : (s.handOver l).pfe = s.pfe := rfl
@[simp] theorem State.handOver_pt (l : Nat) : (s.handOver l).pt = s.pt := rfl
@[simp] theorem State.handOver_pa (l : Nat) : (s.handOver l).pa = s.pa := rfl
@[simp] theorem State.handOver_dc (l : Nat) : (s.handOver l).dc = s.dc := rfl
@[simp] theorem State.handOver_le (l : Nat) : (s.handOver l).le = s.le := rfl
@[simp] theorem State.handOver_ol (l : Nat) : (s.handOver l).ol = s.ol := rfl
@[simp] theorem State.handOver_lc (l : Nat) : (s.handOver l).lc = s.lc := rfl
@[simp] theorem State.handOver_pending (l : Nat) : (s.handOver l).pending = s.pending := rfl

/-! ### fillIdent: writes lc -/

@[simp] theorem State.fillIdent_now (d : Byte) : (s.fillIdent d).now = s.now := rfl
@[simp] theorem State.fillIdent_powered (d : Byte) : (s.fillIdent d).powered = s.powered := rfl
@[simp] theorem State.fillIdent_rstnLow (d : Byte) : (s.fillIdent d).rstnLow = s.rstnLow := rfl
@[simp] theorem State.fillIdent_fullinClosed (d : Byte) : (s.fillIdent d).fullinClosed = s.fullinClosed := rfl
@[simp] theorem State.fillIdent_phinInBand (d : Byte) : (s.fillIdent d).phinInBand = s.phinInBand := rfl
@[simp] theorem State.fillIdent_cl (d : Byte) : (s.fillIdent d).cl = s.cl := rfl
@[simp] theorem State.fillIdent_pfe (d : Byte) : (s.fillIdent d).pfe = s.pfe := rfl
@[simp] theorem State.fillIdent_pt (d : Byte) : (s.fillIdent d).pt = s.pt := rfl
@[simp] theorem State.fillIdent_pa (d : Byte) : (s.fillIdent d).pa = s.pa := rfl
@[simp] theorem State.fillIdent_dc (d : Byte) : (s.fillIdent d).dc = s.dc := rfl
@[simp] theorem State.fillIdent_le (d : Byte) : (s.fillIdent d).le = s.le := rfl
@[simp] theorem State.fillIdent_ol (d : Byte) : (s.fillIdent d).ol = s.ol := rfl
@[simp] theorem State.fillIdent_ch (d : Byte) : (s.fillIdent d).ch = s.ch := rfl
@[simp] theorem State.fillIdent_fr (d : Byte) : (s.fillIdent d).fr = s.fr := rfl
@[simp] theorem State.fillIdent_pending (d : Byte) : (s.fillIdent d).pending = s.pending := rfl

/-! ### placePortal: writes pfe, lc -/

@[simp] theorem State.placePortal_now : (s.placePortal).now = s.now := rfl
@[simp] theorem State.placePortal_powered : (s.placePortal).powered = s.powered := rfl
@[simp] theorem State.placePortal_rstnLow : (s.placePortal).rstnLow = s.rstnLow := rfl
@[simp] theorem State.placePortal_fullinClosed : (s.placePortal).fullinClosed = s.fullinClosed := rfl
@[simp] theorem State.placePortal_phinInBand : (s.placePortal).phinInBand = s.phinInBand := rfl
@[simp] theorem State.placePortal_cl : (s.placePortal).cl = s.cl := rfl
@[simp] theorem State.placePortal_pt : (s.placePortal).pt = s.pt := rfl
@[simp] theorem State.placePortal_pa : (s.placePortal).pa = s.pa := rfl
@[simp] theorem State.placePortal_dc : (s.placePortal).dc = s.dc := rfl
@[simp] theorem State.placePortal_le : (s.placePortal).le = s.le := rfl
@[simp] theorem State.placePortal_ol : (s.placePortal).ol = s.ol := rfl
@[simp] theorem State.placePortal_ch : (s.placePortal).ch = s.ch := rfl
@[simp] theorem State.placePortal_fr : (s.placePortal).fr = s.fr := rfl
@[simp] theorem State.placePortal_pending : (s.placePortal).pending = s.pending := rfl

/-! ### earlyPortal: writes pfe, lc -/

@[simp] theorem State.earlyPortal_now (l : Nat) : (s.earlyPortal l).now = s.now := by
  simp only [State.earlyPortal]; (repeat' split) <;> simp
@[simp] theorem State.earlyPortal_powered (l : Nat) : (s.earlyPortal l).powered = s.powered := by
  simp only [State.earlyPortal]; (repeat' split) <;> simp
@[simp] theorem State.earlyPortal_rstnLow (l : Nat) : (s.earlyPortal l).rstnLow = s.rstnLow := by
  simp only [State.earlyPortal]; (repeat' split) <;> simp
@[simp] theorem State.earlyPortal_fullinClosed (l : Nat) : (s.earlyPortal l).fullinClosed = s.fullinClosed := by
  simp only [State.earlyPortal]; (repeat' split) <;> simp
@[simp] theorem State.earlyPortal_phinInBand (l : Nat) : (s.earlyPortal l).phinInBand = s.phinInBand := by
  simp only [State.earlyPortal]; (repeat' split) <;> simp
@[simp] theorem State.earlyPortal_cl (l : Nat) : (s.earlyPortal l).cl = s.cl := by
  simp only [State.earlyPortal]; (repeat' split) <;> simp
@[simp] theorem State.earlyPortal_pt (l : Nat) : (s.earlyPortal l).pt = s.pt := by
  simp only [State.earlyPortal]; (repeat' split) <;> simp
@[simp] theorem State.earlyPortal_pa (l : Nat) : (s.earlyPortal l).pa = s.pa := by
  simp only [State.earlyPortal]; (repeat' split) <;> simp
@[simp] theorem State.earlyPortal_dc (l : Nat) : (s.earlyPortal l).dc = s.dc := by
  simp only [State.earlyPortal]; (repeat' split) <;> simp
@[simp] theorem State.earlyPortal_le (l : Nat) : (s.earlyPortal l).le = s.le := by
  simp only [State.earlyPortal]; (repeat' split) <;> simp
@[simp] theorem State.earlyPortal_ol (l : Nat) : (s.earlyPortal l).ol = s.ol := by
  simp only [State.earlyPortal]; (repeat' split) <;> simp
@[simp] theorem State.earlyPortal_ch (l : Nat) : (s.earlyPortal l).ch = s.ch := by
  simp only [State.earlyPortal]; (repeat' split) <;> simp
@[simp] theorem State.earlyPortal_fr (l : Nat) : (s.earlyPortal l).fr = s.fr := by
  simp only [State.earlyPortal]; (repeat' split) <;> simp
@[simp] theorem State.earlyPortal_pending (l : Nat) : (s.earlyPortal l).pending = s.pending := by
  simp only [State.earlyPortal]; (repeat' split) <;> simp

/-! ### keepSample: writes pfe, lc -/

@[simp] theorem State.keepSample_now (n : Nat) (b : Bool) : (s.keepSample n b).now = s.now := by
  simp [State.keepSample]
@[simp] theorem State.keepSample_powered (n : Nat) (b : Bool) : (s.keepSample n b).powered = s.powered := by
  simp [State.keepSample]
@[simp] theorem State.keepSample_rstnLow (n : Nat) (b : Bool) : (s.keepSample n b).rstnLow = s.rstnLow := by
  simp [State.keepSample]
@[simp] theorem State.keepSample_fullinClosed (n : Nat) (b : Bool) : (s.keepSample n b).fullinClosed = s.fullinClosed := by
  simp [State.keepSample]
@[simp] theorem State.keepSample_phinInBand (n : Nat) (b : Bool) : (s.keepSample n b).phinInBand = s.phinInBand := by
  simp [State.keepSample]
@[simp] theorem State.keepSample_cl (n : Nat) (b : Bool) : (s.keepSample n b).cl = s.cl := by
  simp [State.keepSample]
@[simp] theorem State.keepSample_pt (n : Nat) (b : Bool) : (s.keepSample n b).pt = s.pt := by
  simp [State.keepSample]
@[simp] theorem State.keepSample_pa (n : Nat) (b : Bool) : (s.keepSample n b).pa = s.pa := by
  simp [State.keepSample]
@[simp] theorem State.keepSample_dc (n : Nat) (b : Bool) : (s.keepSample n b).dc = s.dc := by
  simp [State.keepSample]
@[simp] theorem State.keepSample_le (n : Nat) (b : Bool) : (s.keepSample n b).le = s.le := by
  simp [State.keepSample]
@[simp] theorem State.keepSample_ol (n : Nat) (b : Bool) : (s.keepSample n b).ol = s.ol := by
  simp [State.keepSample]
@[simp] theorem State.keepSample_ch (n : Nat) (b : Bool) : (s.keepSample n b).ch = s.ch := by
  simp [State.keepSample]
@[simp] theorem State.keepSample_fr (n : Nat) (b : Bool) : (s.keepSample n b).fr = s.fr := by
  simp [State.keepSample]
@[simp] theorem State.keepSample_pending (n : Nat) (b : Bool) : (s.keepSample n b).pending = s.pending := by
  simp [State.keepSample]

/-! ### takeConversion: writes pfe, lc -/

@[simp] theorem State.takeConversion_now (n : Nat) : (s.takeConversion n).now = s.now := by
  simp only [State.takeConversion]; (repeat' split) <;> simp
@[simp] theorem State.takeConversion_powered (n : Nat) : (s.takeConversion n).powered = s.powered := by
  simp only [State.takeConversion]; (repeat' split) <;> simp
@[simp] theorem State.takeConversion_rstnLow (n : Nat) : (s.takeConversion n).rstnLow = s.rstnLow := by
  simp only [State.takeConversion]; (repeat' split) <;> simp
@[simp] theorem State.takeConversion_fullinClosed (n : Nat) : (s.takeConversion n).fullinClosed = s.fullinClosed := by
  simp only [State.takeConversion]; (repeat' split) <;> simp
@[simp] theorem State.takeConversion_phinInBand (n : Nat) : (s.takeConversion n).phinInBand = s.phinInBand := by
  simp only [State.takeConversion]; (repeat' split) <;> simp
@[simp] theorem State.takeConversion_cl (n : Nat) : (s.takeConversion n).cl = s.cl := by
  simp only [State.takeConversion]; (repeat' split) <;> simp
@[simp] theorem State.takeConversion_pt (n : Nat) : (s.takeConversion n).pt = s.pt := by
  simp only [State.takeConversion]; (repeat' split) <;> simp
@[simp] theorem State.takeConversion_pa (n : Nat) : (s.takeConversion n).pa = s.pa := by
  simp only [State.takeConversion]; (repeat' split) <;> simp
@[simp] theorem State.takeConversion_dc (n : Nat) : (s.takeConversion n).dc = s.dc := by
  simp only [State.takeConversion]; (repeat' split) <;> simp
@[simp] theorem State.takeConversion_le (n : Nat) : (s.takeConversion n).le = s.le := by
  simp only [State.takeConversion]; (repeat' split) <;> simp
@[simp] theorem State.takeConversion_ol (n : Nat) : (s.takeConversion n).ol = s.ol := by
  simp only [State.takeConversion]; (repeat' split) <;> simp
@[simp] theorem State.takeConversion_ch (n : Nat) : (s.takeConversion n).ch = s.ch := by
  simp only [State.takeConversion]; (repeat' split) <;> simp
@[simp] theorem State.takeConversion_fr (n : Nat) : (s.takeConversion n).fr = s.fr := by
  simp only [State.takeConversion]; (repeat' split) <;> simp
@[simp] theorem State.takeConversion_pending (n : Nat) : (s.takeConversion n).pending = s.pending := by
  simp only [State.takeConversion]; (repeat' split) <;> simp

/-! ### beginSensorFault: writes pfe, lc, fr -/

@[simp] theorem State.beginSensorFault_now : (s.beginSensorFault).now = s.now := by
  simp [State.beginSensorFault]
@[simp] theorem State.beginSensorFault_powered : (s.beginSensorFault).powered = s.powered := by
  simp [State.beginSensorFault]
@[simp] theorem State.beginSensorFault_rstnLow : (s.beginSensorFault).rstnLow = s.rstnLow := by
  simp [State.beginSensorFault]
@[simp] theorem State.beginSensorFault_fullinClosed : (s.beginSensorFault).fullinClosed = s.fullinClosed := by
  simp [State.beginSensorFault]
@[simp] theorem State.beginSensorFault_phinInBand : (s.beginSensorFault).phinInBand = s.phinInBand := by
  simp [State.beginSensorFault]
@[simp] theorem State.beginSensorFault_cl : (s.beginSensorFault).cl = s.cl := by
  simp [State.beginSensorFault]
@[simp] theorem State.beginSensorFault_pt : (s.beginSensorFault).pt = s.pt := by
  simp [State.beginSensorFault]
@[simp] theorem State.beginSensorFault_pa : (s.beginSensorFault).pa = s.pa := by
  simp [State.beginSensorFault]
@[simp] theorem State.beginSensorFault_dc : (s.beginSensorFault).dc = s.dc := by
  simp [State.beginSensorFault]
@[simp] theorem State.beginSensorFault_le : (s.beginSensorFault).le = s.le := by
  simp [State.beginSensorFault]
@[simp] theorem State.beginSensorFault_ol : (s.beginSensorFault).ol = s.ol := by
  simp [State.beginSensorFault]
@[simp] theorem State.beginSensorFault_ch : (s.beginSensorFault).ch = s.ch := by
  simp [State.beginSensorFault]
@[simp] theorem State.beginSensorFault_pending : (s.beginSensorFault).pending = s.pending := by
  simp [State.beginSensorFault]

/-! ### startPhotometer: writes pfe, lc, fr -/

@[simp] theorem State.startPhotometer_now : (s.startPhotometer).now = s.now := by
  simp only [State.startPhotometer]; (repeat' split) <;> simp
@[simp] theorem State.startPhotometer_powered : (s.startPhotometer).powered = s.powered := by
  simp only [State.startPhotometer]; (repeat' split) <;> simp
@[simp] theorem State.startPhotometer_rstnLow : (s.startPhotometer).rstnLow = s.rstnLow := by
  simp only [State.startPhotometer]; (repeat' split) <;> simp
@[simp] theorem State.startPhotometer_fullinClosed : (s.startPhotometer).fullinClosed = s.fullinClosed := by
  simp only [State.startPhotometer]; (repeat' split) <;> simp
@[simp] theorem State.startPhotometer_phinInBand : (s.startPhotometer).phinInBand = s.phinInBand := by
  simp only [State.startPhotometer]; (repeat' split) <;> simp
@[simp] theorem State.startPhotometer_cl : (s.startPhotometer).cl = s.cl := by
  simp only [State.startPhotometer]; (repeat' split) <;> simp
@[simp] theorem State.startPhotometer_pt : (s.startPhotometer).pt = s.pt := by
  simp only [State.startPhotometer]; (repeat' split) <;> simp
@[simp] theorem State.startPhotometer_pa : (s.startPhotometer).pa = s.pa := by
  simp only [State.startPhotometer]; (repeat' split) <;> simp
@[simp] theorem State.startPhotometer_dc : (s.startPhotometer).dc = s.dc := by
  simp only [State.startPhotometer]; (repeat' split) <;> simp
@[simp] theorem State.startPhotometer_le : (s.startPhotometer).le = s.le := by
  simp only [State.startPhotometer]; (repeat' split) <;> simp
@[simp] theorem State.startPhotometer_ol : (s.startPhotometer).ol = s.ol := by
  simp only [State.startPhotometer]; (repeat' split) <;> simp
@[simp] theorem State.startPhotometer_ch : (s.startPhotometer).ch = s.ch := by
  simp only [State.startPhotometer]; (repeat' split) <;> simp
@[simp] theorem State.startPhotometer_pending : (s.startPhotometer).pending = s.pending := by
  simp only [State.startPhotometer]; (repeat' split) <;> simp

/-! ### sampleInstant: writes pfe, lc -/

@[simp] theorem State.sampleInstant_now (n : Nat) : (s.sampleInstant n).now = s.now := by
  simp only [State.sampleInstant]; (repeat' split) <;> simp
@[simp] theorem State.sampleInstant_powered (n : Nat) : (s.sampleInstant n).powered = s.powered := by
  simp only [State.sampleInstant]; (repeat' split) <;> simp
@[simp] theorem State.sampleInstant_rstnLow (n : Nat) : (s.sampleInstant n).rstnLow = s.rstnLow := by
  simp only [State.sampleInstant]; (repeat' split) <;> simp
@[simp] theorem State.sampleInstant_fullinClosed (n : Nat) : (s.sampleInstant n).fullinClosed = s.fullinClosed := by
  simp only [State.sampleInstant]; (repeat' split) <;> simp
@[simp] theorem State.sampleInstant_phinInBand (n : Nat) : (s.sampleInstant n).phinInBand = s.phinInBand := by
  simp only [State.sampleInstant]; (repeat' split) <;> simp
@[simp] theorem State.sampleInstant_cl (n : Nat) : (s.sampleInstant n).cl = s.cl := by
  simp only [State.sampleInstant]; (repeat' split) <;> simp
@[simp] theorem State.sampleInstant_pt (n : Nat) : (s.sampleInstant n).pt = s.pt := by
  simp only [State.sampleInstant]; (repeat' split) <;> simp
@[simp] theorem State.sampleInstant_pa (n : Nat) : (s.sampleInstant n).pa = s.pa := by
  simp only [State.sampleInstant]; (repeat' split) <;> simp
@[simp] theorem State.sampleInstant_dc (n : Nat) : (s.sampleInstant n).dc = s.dc := by
  simp only [State.sampleInstant]; (repeat' split) <;> simp
@[simp] theorem State.sampleInstant_le (n : Nat) : (s.sampleInstant n).le = s.le := by
  simp only [State.sampleInstant]; (repeat' split) <;> simp
@[simp] theorem State.sampleInstant_ol (n : Nat) : (s.sampleInstant n).ol = s.ol := by
  simp only [State.sampleInstant]; (repeat' split) <;> simp
@[simp] theorem State.sampleInstant_ch (n : Nat) : (s.sampleInstant n).ch = s.ch := by
  simp only [State.sampleInstant]; (repeat' split) <;> simp
@[simp] theorem State.sampleInstant_fr (n : Nat) : (s.sampleInstant n).fr = s.fr := by
  simp only [State.sampleInstant]; (repeat' split) <;> simp
@[simp] theorem State.sampleInstant_pending (n : Nat) : (s.sampleInstant n).pending = s.pending := by
  simp only [State.sampleInstant]; (repeat' split) <;> simp

/-! ### portalReport: writes pfe, lc -/

@[simp] theorem State.portalReport_now : (s.portalReport).now = s.now := by
  simp only [State.portalReport]; (repeat' split) <;> simp
@[simp] theorem State.portalReport_powered : (s.portalReport).powered = s.powered := by
  simp only [State.portalReport]; (repeat' split) <;> simp
@[simp] theorem State.portalReport_rstnLow : (s.portalReport).rstnLow = s.rstnLow := by
  simp only [State.portalReport]; (repeat' split) <;> simp
@[simp] theorem State.portalReport_fullinClosed : (s.portalReport).fullinClosed = s.fullinClosed := by
  simp only [State.portalReport]; (repeat' split) <;> simp
@[simp] theorem State.portalReport_phinInBand : (s.portalReport).phinInBand = s.phinInBand := by
  simp only [State.portalReport]; (repeat' split) <;> simp
@[simp] theorem State.portalReport_cl : (s.portalReport).cl = s.cl := by
  simp only [State.portalReport]; (repeat' split) <;> simp
@[simp] theorem State.portalReport_pt : (s.portalReport).pt = s.pt := by
  simp only [State.portalReport]; (repeat' split) <;> simp
@[simp] theorem State.portalReport_pa : (s.portalReport).pa = s.pa := by
  simp only [State.portalReport]; (repeat' split) <;> simp
@[simp] theorem State.portalReport_dc : (s.portalReport).dc = s.dc := by
  simp only [State.portalReport]; (repeat' split) <;> simp
@[simp] theorem State.portalReport_le : (s.portalReport).le = s.le := by
  simp only [State.portalReport]; (repeat' split) <;> simp
@[simp] theorem State.portalReport_ol : (s.portalReport).ol = s.ol := by
  simp only [State.portalReport]; (repeat' split) <;> simp
@[simp] theorem State.portalReport_ch : (s.portalReport).ch = s.ch := by
  simp only [State.portalReport]; (repeat' split) <;> simp
@[simp] theorem State.portalReport_fr : (s.portalReport).fr = s.fr := by
  simp only [State.portalReport]; (repeat' split) <;> simp
@[simp] theorem State.portalReport_pending : (s.portalReport).pending = s.pending := by
  simp only [State.portalReport]; (repeat' split) <;> simp

/-! ### examineNeighbours: writes pt, fr -/

@[simp] theorem State.examineNeighbours_now : (s.examineNeighbours).now = s.now := rfl
@[simp] theorem State.examineNeighbours_powered : (s.examineNeighbours).powered = s.powered := rfl
@[simp] theorem State.examineNeighbours_rstnLow : (s.examineNeighbours).rstnLow = s.rstnLow := rfl
@[simp] theorem State.examineNeighbours_fullinClosed : (s.examineNeighbours).fullinClosed = s.fullinClosed := rfl
@[simp] theorem State.examineNeighbours_phinInBand : (s.examineNeighbours).phinInBand = s.phinInBand := rfl
@[simp] theorem State.examineNeighbours_cl : (s.examineNeighbours).cl = s.cl := rfl
@[simp] theorem State.examineNeighbours_pfe : (s.examineNeighbours).pfe = s.pfe := rfl
@[simp] theorem State.examineNeighbours_pa : (s.examineNeighbours).pa = s.pa := rfl
@[simp] theorem State.examineNeighbours_dc : (s.examineNeighbours).dc = s.dc := rfl
@[simp] theorem State.examineNeighbours_le : (s.examineNeighbours).le = s.le := rfl
@[simp] theorem State.examineNeighbours_ol : (s.examineNeighbours).ol = s.ol := rfl
@[simp] theorem State.examineNeighbours_ch : (s.examineNeighbours).ch = s.ch := rfl
@[simp] theorem State.examineNeighbours_lc : (s.examineNeighbours).lc = s.lc := rfl
@[simp] theorem State.examineNeighbours_pending : (s.examineNeighbours).pending = s.pending := rfl

/-! ### applyToEntry: writes pt, fr -/

@[simp] theorem State.applyToEntry_now (a : Byte) (g : Entry → Entry) : (s.applyToEntry a g).now = s.now := by
  simp only [State.applyToEntry]; (repeat' split) <;> simp
@[simp] theorem State.applyToEntry_powered (a : Byte) (g : Entry → Entry) : (s.applyToEntry a g).powered = s.powered := by
  simp only [State.applyToEntry]; (repeat' split) <;> simp
@[simp] theorem State.applyToEntry_rstnLow (a : Byte) (g : Entry → Entry) : (s.applyToEntry a g).rstnLow = s.rstnLow := by
  simp only [State.applyToEntry]; (repeat' split) <;> simp
@[simp] theorem State.applyToEntry_fullinClosed (a : Byte) (g : Entry → Entry) : (s.applyToEntry a g).fullinClosed = s.fullinClosed := by
  simp only [State.applyToEntry]; (repeat' split) <;> simp
@[simp] theorem State.applyToEntry_phinInBand (a : Byte) (g : Entry → Entry) : (s.applyToEntry a g).phinInBand = s.phinInBand := by
  simp only [State.applyToEntry]; (repeat' split) <;> simp
@[simp] theorem State.applyToEntry_cl (a : Byte) (g : Entry → Entry) : (s.applyToEntry a g).cl = s.cl := by
  simp only [State.applyToEntry]; (repeat' split) <;> simp
@[simp] theorem State.applyToEntry_pfe (a : Byte) (g : Entry → Entry) : (s.applyToEntry a g).pfe = s.pfe := by
  simp only [State.applyToEntry]; (repeat' split) <;> simp
@[simp] theorem State.applyToEntry_pa (a : Byte) (g : Entry → Entry) : (s.applyToEntry a g).pa = s.pa := by
  simp only [State.applyToEntry]; (repeat' split) <;> simp
@[simp] theorem State.applyToEntry_dc (a : Byte) (g : Entry → Entry) : (s.applyToEntry a g).dc = s.dc := by
  simp only [State.applyToEntry]; (repeat' split) <;> simp
@[simp] theorem State.applyToEntry_le (a : Byte) (g : Entry → Entry) : (s.applyToEntry a g).le = s.le := by
  simp only [State.applyToEntry]; (repeat' split) <;> simp
@[simp] theorem State.applyToEntry_ol (a : Byte) (g : Entry → Entry) : (s.applyToEntry a g).ol = s.ol := by
  simp only [State.applyToEntry]; (repeat' split) <;> simp
@[simp] theorem State.applyToEntry_ch (a : Byte) (g : Entry → Entry) : (s.applyToEntry a g).ch = s.ch := by
  simp only [State.applyToEntry]; (repeat' split) <;> simp
@[simp] theorem State.applyToEntry_lc (a : Byte) (g : Entry → Entry) : (s.applyToEntry a g).lc = s.lc := by
  simp only [State.applyToEntry]; (repeat' split) <;> simp
@[simp] theorem State.applyToEntry_pending (a : Byte) (g : Entry → Entry) : (s.applyToEntry a g).pending = s.pending := by
  simp only [State.applyToEntry]; (repeat' split) <;> simp

/-! ### takeLevel: writes pt, fr -/

@[simp] theorem State.takeLevel_now (r : RawFrame) : (s.takeLevel r).now = s.now := by
  simp only [State.takeLevel]; (repeat' split) <;> simp
@[simp] theorem State.takeLevel_powered (r : RawFrame) : (s.takeLevel r).powered = s.powered := by
  simp only [State.takeLevel]; (repeat' split) <;> simp
@[simp] theorem State.takeLevel_rstnLow (r : RawFrame) : (s.takeLevel r).rstnLow = s.rstnLow := by
  simp only [State.takeLevel]; (repeat' split) <;> simp
@[simp] theorem State.takeLevel_fullinClosed (r : RawFrame) : (s.takeLevel r).fullinClosed = s.fullinClosed := by
  simp only [State.takeLevel]; (repeat' split) <;> simp
@[simp] theorem State.takeLevel_phinInBand (r : RawFrame) : (s.takeLevel r).phinInBand = s.phinInBand := by
  simp only [State.takeLevel]; (repeat' split) <;> simp
@[simp] theorem State.takeLevel_cl (r : RawFrame) : (s.takeLevel r).cl = s.cl := by
  simp only [State.takeLevel]; (repeat' split) <;> simp
@[simp] theorem State.takeLevel_pfe (r : RawFrame) : (s.takeLevel r).pfe = s.pfe := by
  simp only [State.takeLevel]; (repeat' split) <;> simp
@[simp] theorem State.takeLevel_pa (r : RawFrame) : (s.takeLevel r).pa = s.pa := by
  simp only [State.takeLevel]; (repeat' split) <;> simp
@[simp] theorem State.takeLevel_dc (r : RawFrame) : (s.takeLevel r).dc = s.dc := by
  simp only [State.takeLevel]; (repeat' split) <;> simp
@[simp] theorem State.takeLevel_le (r : RawFrame) : (s.takeLevel r).le = s.le := by
  simp only [State.takeLevel]; (repeat' split) <;> simp
@[simp] theorem State.takeLevel_ol (r : RawFrame) : (s.takeLevel r).ol = s.ol := by
  simp only [State.takeLevel]; (repeat' split) <;> simp
@[simp] theorem State.takeLevel_ch (r : RawFrame) : (s.takeLevel r).ch = s.ch := by
  simp only [State.takeLevel]; (repeat' split) <;> simp
@[simp] theorem State.takeLevel_lc (r : RawFrame) : (s.takeLevel r).lc = s.lc := by
  simp only [State.takeLevel]; (repeat' split) <;> simp
@[simp] theorem State.takeLevel_pending (r : RawFrame) : (s.takeLevel r).pending = s.pending := by
  simp only [State.takeLevel]; (repeat' split) <;> simp

/-! ### takePortal: writes pt, fr -/

@[simp] theorem State.takePortal_now (r : RawFrame) : (s.takePortal r).now = s.now := by
  simp only [State.takePortal]; (repeat' split) <;> simp
@[simp] theorem State.takePortal_powered (r : RawFrame) : (s.takePortal r).powered = s.powered := by
  simp only [State.takePortal]; (repeat' split) <;> simp
@[simp] theorem State.takePortal_rstnLow (r : RawFrame) : (s.takePortal r).rstnLow = s.rstnLow := by
  simp only [State.takePortal]; (repeat' split) <;> simp
@[simp] theorem State.takePortal_fullinClosed (r : RawFrame) : (s.takePortal r).fullinClosed = s.fullinClosed := by
  simp only [State.takePortal]; (repeat' split) <;> simp
@[simp] theorem State.takePortal_phinInBand (r : RawFrame) : (s.takePortal r).phinInBand = s.phinInBand := by
  simp only [State.takePortal]; (repeat' split) <;> simp
@[simp] theorem State.takePortal_cl (r : RawFrame) : (s.takePortal r).cl = s.cl := by
  simp only [State.takePortal]; (repeat' split) <;> simp
@[simp] theorem State.takePortal_pfe (r : RawFrame) : (s.takePortal r).pfe = s.pfe := by
  simp only [State.takePortal]; (repeat' split) <;> simp
@[simp] theorem State.takePortal_pa (r : RawFrame) : (s.takePortal r).pa = s.pa := by
  simp only [State.takePortal]; (repeat' split) <;> simp
@[simp] theorem State.takePortal_dc (r : RawFrame) : (s.takePortal r).dc = s.dc := by
  simp only [State.takePortal]; (repeat' split) <;> simp
@[simp] theorem State.takePortal_le (r : RawFrame) : (s.takePortal r).le = s.le := by
  simp only [State.takePortal]; (repeat' split) <;> simp
@[simp] theorem State.takePortal_ol (r : RawFrame) : (s.takePortal r).ol = s.ol := by
  simp only [State.takePortal]; (repeat' split) <;> simp
@[simp] theorem State.takePortal_ch (r : RawFrame) : (s.takePortal r).ch = s.ch := by
  simp only [State.takePortal]; (repeat' split) <;> simp
@[simp] theorem State.takePortal_lc (r : RawFrame) : (s.takePortal r).lc = s.lc := by
  simp only [State.takePortal]; (repeat' split) <;> simp
@[simp] theorem State.takePortal_pending (r : RawFrame) : (s.takePortal r).pending = s.pending := by
  simp only [State.takePortal]; (repeat' split) <;> simp

/-! ### takeIdent: writes pt, fr -/

@[simp] theorem State.takeIdent_now (r : RawFrame) : (s.takeIdent r).now = s.now := by
  simp only [State.takeIdent]; (repeat' split) <;> simp
@[simp] theorem State.takeIdent_powered (r : RawFrame) : (s.takeIdent r).powered = s.powered := by
  simp only [State.takeIdent]; (repeat' split) <;> simp
@[simp] theorem State.takeIdent_rstnLow (r : RawFrame) : (s.takeIdent r).rstnLow = s.rstnLow := by
  simp only [State.takeIdent]; (repeat' split) <;> simp
@[simp] theorem State.takeIdent_fullinClosed (r : RawFrame) : (s.takeIdent r).fullinClosed = s.fullinClosed := by
  simp only [State.takeIdent]; (repeat' split) <;> simp
@[simp] theorem State.takeIdent_phinInBand (r : RawFrame) : (s.takeIdent r).phinInBand = s.phinInBand := by
  simp only [State.takeIdent]; (repeat' split) <;> simp
@[simp] theorem State.takeIdent_cl (r : RawFrame) : (s.takeIdent r).cl = s.cl := by
  simp only [State.takeIdent]; (repeat' split) <;> simp
@[simp] theorem State.takeIdent_pfe (r : RawFrame) : (s.takeIdent r).pfe = s.pfe := by
  simp only [State.takeIdent]; (repeat' split) <;> simp
@[simp] theorem State.takeIdent_pa (r : RawFrame) : (s.takeIdent r).pa = s.pa := by
  simp only [State.takeIdent]; (repeat' split) <;> simp
@[simp] theorem State.takeIdent_dc (r : RawFrame) : (s.takeIdent r).dc = s.dc := by
  simp only [State.takeIdent]; (repeat' split) <;> simp
@[simp] theorem State.takeIdent_le (r : RawFrame) : (s.takeIdent r).le = s.le := by
  simp only [State.takeIdent]; (repeat' split) <;> simp
@[simp] theorem State.takeIdent_ol (r : RawFrame) : (s.takeIdent r).ol = s.ol := by
  simp only [State.takeIdent]; (repeat' split) <;> simp
@[simp] theorem State.takeIdent_ch (r : RawFrame) : (s.takeIdent r).ch = s.ch := by
  simp only [State.takeIdent]; (repeat' split) <;> simp
@[simp] theorem State.takeIdent_lc (r : RawFrame) : (s.takeIdent r).lc = s.lc := by
  simp only [State.takeIdent]; (repeat' split) <;> simp
@[simp] theorem State.takeIdent_pending (r : RawFrame) : (s.takeIdent r).pending = s.pending := by
  simp only [State.takeIdent]; (repeat' split) <;> simp

/-! ### formSides: writes pa, fr -/

@[simp] theorem State.formSides_now : (s.formSides).now = s.now := rfl
@[simp] theorem State.formSides_powered : (s.formSides).powered = s.powered := rfl
@[simp] theorem State.formSides_rstnLow : (s.formSides).rstnLow = s.rstnLow := rfl
@[simp] theorem State.formSides_fullinClosed : (s.formSides).fullinClosed = s.fullinClosed := rfl
@[simp] theorem State.formSides_phinInBand : (s.formSides).phinInBand = s.phinInBand := rfl
@[simp] theorem State.formSides_cl : (s.formSides).cl = s.cl := rfl
@[simp] theorem State.formSides_pfe : (s.formSides).pfe = s.pfe := rfl
@[simp] theorem State.formSides_pt : (s.formSides).pt = s.pt := rfl
@[simp] theorem State.formSides_dc : (s.formSides).dc = s.dc := rfl
@[simp] theorem State.formSides_le : (s.formSides).le = s.le := rfl
@[simp] theorem State.formSides_ol : (s.formSides).ol = s.ol := rfl
@[simp] theorem State.formSides_ch : (s.formSides).ch = s.ch := rfl
@[simp] theorem State.formSides_lc : (s.formSides).lc = s.lc := rfl
@[simp] theorem State.formSides_pending : (s.formSides).pending = s.pending := rfl

/-! ### examineSides: writes pa, fr -/

@[simp] theorem State.examineSides_now : (s.examineSides).now = s.now := rfl
@[simp] theorem State.examineSides_powered : (s.examineSides).powered = s.powered := rfl
@[simp] theorem State.examineSides_rstnLow : (s.examineSides).rstnLow = s.rstnLow := rfl
@[simp] theorem State.examineSides_fullinClosed : (s.examineSides).fullinClosed = s.fullinClosed := rfl
@[simp] theorem State.examineSides_phinInBand : (s.examineSides).phinInBand = s.phinInBand := rfl
@[simp] theorem State.examineSides_cl : (s.examineSides).cl = s.cl := rfl
@[simp] theorem State.examineSides_pfe : (s.examineSides).pfe = s.pfe := rfl
@[simp] theorem State.examineSides_pt : (s.examineSides).pt = s.pt := rfl
@[simp] theorem State.examineSides_dc : (s.examineSides).dc = s.dc := rfl
@[simp] theorem State.examineSides_le : (s.examineSides).le = s.le := rfl
@[simp] theorem State.examineSides_ol : (s.examineSides).ol = s.ol := rfl
@[simp] theorem State.examineSides_ch : (s.examineSides).ch = s.ch := rfl
@[simp] theorem State.examineSides_lc : (s.examineSides).lc = s.lc := rfl
@[simp] theorem State.examineSides_pending : (s.examineSides).pending = s.pending := rfl

/-! ### formDemand: writes pa, dc, fr -/

@[simp] theorem State.formDemand_now : (s.formDemand).now = s.now := rfl
@[simp] theorem State.formDemand_powered : (s.formDemand).powered = s.powered := rfl
@[simp] theorem State.formDemand_rstnLow : (s.formDemand).rstnLow = s.rstnLow := rfl
@[simp] theorem State.formDemand_fullinClosed : (s.formDemand).fullinClosed = s.fullinClosed := rfl
@[simp] theorem State.formDemand_phinInBand : (s.formDemand).phinInBand = s.phinInBand := rfl
@[simp] theorem State.formDemand_cl : (s.formDemand).cl = s.cl := rfl
@[simp] theorem State.formDemand_pfe : (s.formDemand).pfe = s.pfe := rfl
@[simp] theorem State.formDemand_pt : (s.formDemand).pt = s.pt := rfl
@[simp] theorem State.formDemand_le : (s.formDemand).le = s.le := rfl
@[simp] theorem State.formDemand_ol : (s.formDemand).ol = s.ol := rfl
@[simp] theorem State.formDemand_ch : (s.formDemand).ch = s.ch := rfl
@[simp] theorem State.formDemand_lc : (s.formDemand).lc = s.lc := rfl
@[simp] theorem State.formDemand_pending : (s.formDemand).pending = s.pending := rfl

/-! ### takeTrim: writes dc, fr -/

@[simp] theorem State.takeTrim_now (r : RawFrame) : (s.takeTrim r).now = s.now := by
  simp only [State.takeTrim]; (repeat' split) <;> simp
@[simp] theorem State.takeTrim_powered (r : RawFrame) : (s.takeTrim r).powered = s.powered := by
  simp only [State.takeTrim]; (repeat' split) <;> simp
@[simp] theorem State.takeTrim_rstnLow (r : RawFrame) : (s.takeTrim r).rstnLow = s.rstnLow := by
  simp only [State.takeTrim]; (repeat' split) <;> simp
@[simp] theorem State.takeTrim_fullinClosed (r : RawFrame) : (s.takeTrim r).fullinClosed = s.fullinClosed := by
  simp only [State.takeTrim]; (repeat' split) <;> simp
@[simp] theorem State.takeTrim_phinInBand (r : RawFrame) : (s.takeTrim r).phinInBand = s.phinInBand := by
  simp only [State.takeTrim]; (repeat' split) <;> simp
@[simp] theorem State.takeTrim_cl (r : RawFrame) : (s.takeTrim r).cl = s.cl := by
  simp only [State.takeTrim]; (repeat' split) <;> simp
@[simp] theorem State.takeTrim_pfe (r : RawFrame) : (s.takeTrim r).pfe = s.pfe := by
  simp only [State.takeTrim]; (repeat' split) <;> simp
@[simp] theorem State.takeTrim_pt (r : RawFrame) : (s.takeTrim r).pt = s.pt := by
  simp only [State.takeTrim]; (repeat' split) <;> simp
@[simp] theorem State.takeTrim_pa (r : RawFrame) : (s.takeTrim r).pa = s.pa := by
  simp only [State.takeTrim]; (repeat' split) <;> simp
@[simp] theorem State.takeTrim_le (r : RawFrame) : (s.takeTrim r).le = s.le := by
  simp only [State.takeTrim]; (repeat' split) <;> simp
@[simp] theorem State.takeTrim_ol (r : RawFrame) : (s.takeTrim r).ol = s.ol := by
  simp only [State.takeTrim]; (repeat' split) <;> simp
@[simp] theorem State.takeTrim_ch (r : RawFrame) : (s.takeTrim r).ch = s.ch := by
  simp only [State.takeTrim]; (repeat' split) <;> simp
@[simp] theorem State.takeTrim_lc (r : RawFrame) : (s.takeTrim r).lc = s.lc := by
  simp only [State.takeTrim]; (repeat' split) <;> simp
@[simp] theorem State.takeTrim_pending (r : RawFrame) : (s.takeTrim r).pending = s.pending := by
  simp only [State.takeTrim]; (repeat' split) <;> simp

/-! ### beginFull: writes le, ch, fr -/

@[simp] theorem State.beginFull_now : (s.beginFull).now = s.now := by
  simp only [State.beginFull]; (repeat' split) <;> simp
@[simp] theorem State.beginFull_powered : (s.beginFull).powered = s.powered := by
  simp only [State.beginFull]; (repeat' split) <;> simp
@[simp] theorem State.beginFull_rstnLow : (s.beginFull).rstnLow = s.rstnLow := by
  simp only [State.beginFull]; (repeat' split) <;> simp
@[simp] theorem State.beginFull_fullinClosed : (s.beginFull).fullinClosed = s.fullinClosed := by
  simp only [State.beginFull]; (repeat' split) <;> simp
@[simp] theorem State.beginFull_phinInBand : (s.beginFull).phinInBand = s.phinInBand := by
  simp only [State.beginFull]; (repeat' split) <;> simp
@[simp] theorem State.beginFull_cl : (s.beginFull).cl = s.cl := by
  simp only [State.beginFull]; (repeat' split) <;> simp
@[simp] theorem State.beginFull_pfe : (s.beginFull).pfe = s.pfe := by
  simp only [State.beginFull]; (repeat' split) <;> simp
@[simp] theorem State.beginFull_pt : (s.beginFull).pt = s.pt := by
  simp only [State.beginFull]; (repeat' split) <;> simp
@[simp] theorem State.beginFull_pa : (s.beginFull).pa = s.pa := by
  simp only [State.beginFull]; (repeat' split) <;> simp
@[simp] theorem State.beginFull_dc : (s.beginFull).dc = s.dc := by
  simp only [State.beginFull]; (repeat' split) <;> simp
@[simp] theorem State.beginFull_ol : (s.beginFull).ol = s.ol := by
  simp only [State.beginFull]; (repeat' split) <;> simp
@[simp] theorem State.beginFull_lc : (s.beginFull).lc = s.lc := by
  simp only [State.beginFull]; (repeat' split) <;> simp
@[simp] theorem State.beginFull_pending : (s.beginFull).pending = s.pending := by
  simp only [State.beginFull]; (repeat' split) <;> simp

/-! ### admitOverride: writes ol, le, ch, fr -/

@[simp] theorem State.admitOverride_now (l : List OverrideEntry) (e : OverrideEntry) : (s.admitOverride l e).now = s.now := by
  simp only [State.admitOverride]; (repeat' split) <;> simp
@[simp] theorem State.admitOverride_powered (l : List OverrideEntry) (e : OverrideEntry) : (s.admitOverride l e).powered = s.powered := by
  simp only [State.admitOverride]; (repeat' split) <;> simp
@[simp] theorem State.admitOverride_rstnLow (l : List OverrideEntry) (e : OverrideEntry) : (s.admitOverride l e).rstnLow = s.rstnLow := by
  simp only [State.admitOverride]; (repeat' split) <;> simp
@[simp] theorem State.admitOverride_fullinClosed (l : List OverrideEntry) (e : OverrideEntry) : (s.admitOverride l e).fullinClosed = s.fullinClosed := by
  simp only [State.admitOverride]; (repeat' split) <;> simp
@[simp] theorem State.admitOverride_phinInBand (l : List OverrideEntry) (e : OverrideEntry) : (s.admitOverride l e).phinInBand = s.phinInBand := by
  simp only [State.admitOverride]; (repeat' split) <;> simp
@[simp] theorem State.admitOverride_cl (l : List OverrideEntry) (e : OverrideEntry) : (s.admitOverride l e).cl = s.cl := by
  simp only [State.admitOverride]; (repeat' split) <;> simp
@[simp] theorem State.admitOverride_pfe (l : List OverrideEntry) (e : OverrideEntry) : (s.admitOverride l e).pfe = s.pfe := by
  simp only [State.admitOverride]; (repeat' split) <;> simp
@[simp] theorem State.admitOverride_pt (l : List OverrideEntry) (e : OverrideEntry) : (s.admitOverride l e).pt = s.pt := by
  simp only [State.admitOverride]; (repeat' split) <;> simp
@[simp] theorem State.admitOverride_pa (l : List OverrideEntry) (e : OverrideEntry) : (s.admitOverride l e).pa = s.pa := by
  simp only [State.admitOverride]; (repeat' split) <;> simp
@[simp] theorem State.admitOverride_dc (l : List OverrideEntry) (e : OverrideEntry) : (s.admitOverride l e).dc = s.dc := by
  simp only [State.admitOverride]; (repeat' split) <;> simp
@[simp] theorem State.admitOverride_lc (l : List OverrideEntry) (e : OverrideEntry) : (s.admitOverride l e).lc = s.lc := by
  simp only [State.admitOverride]; (repeat' split) <;> simp
@[simp] theorem State.admitOverride_pending (l : List OverrideEntry) (e : OverrideEntry) : (s.admitOverride l e).pending = s.pending := by
  simp only [State.admitOverride]; (repeat' split) <;> simp

/-! ### takeOrder: writes ol, le, ch, fr -/

@[simp] theorem State.takeOrder_now (a : Byte) (k : OverrideKind) (f : OverrideFields) : (s.takeOrder a k f).now = s.now := by
  simp only [State.takeOrder]; (repeat' split) <;> simp
@[simp] theorem State.takeOrder_powered (a : Byte) (k : OverrideKind) (f : OverrideFields) : (s.takeOrder a k f).powered = s.powered := by
  simp only [State.takeOrder]; (repeat' split) <;> simp
@[simp] theorem State.takeOrder_rstnLow (a : Byte) (k : OverrideKind) (f : OverrideFields) : (s.takeOrder a k f).rstnLow = s.rstnLow := by
  simp only [State.takeOrder]; (repeat' split) <;> simp
@[simp] theorem State.takeOrder_fullinClosed (a : Byte) (k : OverrideKind) (f : OverrideFields) : (s.takeOrder a k f).fullinClosed = s.fullinClosed := by
  simp only [State.takeOrder]; (repeat' split) <;> simp
@[simp] theorem State.takeOrder_phinInBand (a : Byte) (k : OverrideKind) (f : OverrideFields) : (s.takeOrder a k f).phinInBand = s.phinInBand := by
  simp only [State.takeOrder]; (repeat' split) <;> simp
@[simp] theorem State.takeOrder_cl (a : Byte) (k : OverrideKind) (f : OverrideFields) : (s.takeOrder a k f).cl = s.cl := by
  simp only [State.takeOrder]; (repeat' split) <;> simp
@[simp] theorem State.takeOrder_pfe (a : Byte) (k : OverrideKind) (f : OverrideFields) : (s.takeOrder a k f).pfe = s.pfe := by
  simp only [State.takeOrder]; (repeat' split) <;> simp
@[simp] theorem State.takeOrder_pt (a : Byte) (k : OverrideKind) (f : OverrideFields) : (s.takeOrder a k f).pt = s.pt := by
  simp only [State.takeOrder]; (repeat' split) <;> simp
@[simp] theorem State.takeOrder_pa (a : Byte) (k : OverrideKind) (f : OverrideFields) : (s.takeOrder a k f).pa = s.pa := by
  simp only [State.takeOrder]; (repeat' split) <;> simp
@[simp] theorem State.takeOrder_dc (a : Byte) (k : OverrideKind) (f : OverrideFields) : (s.takeOrder a k f).dc = s.dc := by
  simp only [State.takeOrder]; (repeat' split) <;> simp
@[simp] theorem State.takeOrder_lc (a : Byte) (k : OverrideKind) (f : OverrideFields) : (s.takeOrder a k f).lc = s.lc := by
  simp only [State.takeOrder]; (repeat' split) <;> simp
@[simp] theorem State.takeOrder_pending (a : Byte) (k : OverrideKind) (f : OverrideFields) : (s.takeOrder a k f).pending = s.pending := by
  simp only [State.takeOrder]; (repeat' split) <;> simp

/-! ### takeRelease: writes ol -/

@[simp] theorem State.takeRelease_now (a : Byte) (k : OverrideKind) : (s.takeRelease a k).now = s.now := rfl
@[simp] theorem State.takeRelease_powered (a : Byte) (k : OverrideKind) : (s.takeRelease a k).powered = s.powered := rfl
@[simp] theorem State.takeRelease_rstnLow (a : Byte) (k : OverrideKind) : (s.takeRelease a k).rstnLow = s.rstnLow := rfl
@[simp] theorem State.takeRelease_fullinClosed (a : Byte) (k : OverrideKind) : (s.takeRelease a k).fullinClosed = s.fullinClosed := rfl
@[simp] theorem State.takeRelease_phinInBand (a : Byte) (k : OverrideKind) : (s.takeRelease a k).phinInBand = s.phinInBand := rfl
@[simp] theorem State.takeRelease_cl (a : Byte) (k : OverrideKind) : (s.takeRelease a k).cl = s.cl := rfl
@[simp] theorem State.takeRelease_pfe (a : Byte) (k : OverrideKind) : (s.takeRelease a k).pfe = s.pfe := rfl
@[simp] theorem State.takeRelease_pt (a : Byte) (k : OverrideKind) : (s.takeRelease a k).pt = s.pt := rfl
@[simp] theorem State.takeRelease_pa (a : Byte) (k : OverrideKind) : (s.takeRelease a k).pa = s.pa := rfl
@[simp] theorem State.takeRelease_dc (a : Byte) (k : OverrideKind) : (s.takeRelease a k).dc = s.dc := rfl
@[simp] theorem State.takeRelease_le (a : Byte) (k : OverrideKind) : (s.takeRelease a k).le = s.le := rfl
@[simp] theorem State.takeRelease_ch (a : Byte) (k : OverrideKind) : (s.takeRelease a k).ch = s.ch := rfl
@[simp] theorem State.takeRelease_lc (a : Byte) (k : OverrideKind) : (s.takeRelease a k).lc = s.lc := rfl
@[simp] theorem State.takeRelease_fr (a : Byte) (k : OverrideKind) : (s.takeRelease a k).fr = s.fr := rfl
@[simp] theorem State.takeRelease_pending (a : Byte) (k : OverrideKind) : (s.takeRelease a k).pending = s.pending := rfl

/-! ### takeOverride: writes ol, le, ch, fr -/

@[simp] theorem State.takeOverride_now (r : RawFrame) : (s.takeOverride r).now = s.now := by
  simp only [State.takeOverride]; (repeat' split) <;> simp
@[simp] theorem State.takeOverride_powered (r : RawFrame) : (s.takeOverride r).powered = s.powered := by
  simp only [State.takeOverride]; (repeat' split) <;> simp
@[simp] theorem State.takeOverride_rstnLow (r : RawFrame) : (s.takeOverride r).rstnLow = s.rstnLow := by
  simp only [State.takeOverride]; (repeat' split) <;> simp
@[simp] theorem State.takeOverride_fullinClosed (r : RawFrame) : (s.takeOverride r).fullinClosed = s.fullinClosed := by
  simp only [State.takeOverride]; (repeat' split) <;> simp
@[simp] theorem State.takeOverride_phinInBand (r : RawFrame) : (s.takeOverride r).phinInBand = s.phinInBand := by
  simp only [State.takeOverride]; (repeat' split) <;> simp
@[simp] theorem State.takeOverride_cl (r : RawFrame) : (s.takeOverride r).cl = s.cl := by
  simp only [State.takeOverride]; (repeat' split) <;> simp
@[simp] theorem State.takeOverride_pfe (r : RawFrame) : (s.takeOverride r).pfe = s.pfe := by
  simp only [State.takeOverride]; (repeat' split) <;> simp
@[simp] theorem State.takeOverride_pt (r : RawFrame) : (s.takeOverride r).pt = s.pt := by
  simp only [State.takeOverride]; (repeat' split) <;> simp
@[simp] theorem State.takeOverride_pa (r : RawFrame) : (s.takeOverride r).pa = s.pa := by
  simp only [State.takeOverride]; (repeat' split) <;> simp
@[simp] theorem State.takeOverride_dc (r : RawFrame) : (s.takeOverride r).dc = s.dc := by
  simp only [State.takeOverride]; (repeat' split) <;> simp
@[simp] theorem State.takeOverride_lc (r : RawFrame) : (s.takeOverride r).lc = s.lc := by
  simp only [State.takeOverride]; (repeat' split) <;> simp
@[simp] theorem State.takeOverride_pending (r : RawFrame) : (s.takeOverride r).pending = s.pending := by
  simp only [State.takeOverride]; (repeat' split) <;> simp

/-! ### placeOverride: writes lc -/

@[simp] theorem State.placeOverride_now (d : Nat) : (s.placeOverride d).now = s.now := rfl
@[simp] theorem State.placeOverride_powered (d : Nat) : (s.placeOverride d).powered = s.powered := rfl
@[simp] theorem State.placeOverride_rstnLow (d : Nat) : (s.placeOverride d).rstnLow = s.rstnLow := rfl
@[simp] theorem State.placeOverride_fullinClosed (d : Nat) : (s.placeOverride d).fullinClosed = s.fullinClosed := rfl
@[simp] theorem State.placeOverride_phinInBand (d : Nat) : (s.placeOverride d).phinInBand = s.phinInBand := rfl
@[simp] theorem State.placeOverride_cl (d : Nat) : (s.placeOverride d).cl = s.cl := rfl
@[simp] theorem State.placeOverride_pfe (d : Nat) : (s.placeOverride d).pfe = s.pfe := rfl
@[simp] theorem State.placeOverride_pt (d : Nat) : (s.placeOverride d).pt = s.pt := rfl
@[simp] theorem State.placeOverride_pa (d : Nat) : (s.placeOverride d).pa = s.pa := rfl
@[simp] theorem State.placeOverride_dc (d : Nat) : (s.placeOverride d).dc = s.dc := rfl
@[simp] theorem State.placeOverride_le (d : Nat) : (s.placeOverride d).le = s.le := rfl
@[simp] theorem State.placeOverride_ol (d : Nat) : (s.placeOverride d).ol = s.ol := rfl
@[simp] theorem State.placeOverride_ch (d : Nat) : (s.placeOverride d).ch = s.ch := rfl
@[simp] theorem State.placeOverride_fr (d : Nat) : (s.placeOverride d).fr = s.fr := rfl
@[simp] theorem State.placeOverride_pending (d : Nat) : (s.placeOverride d).pending = s.pending := rfl

/-! ### contactCloses: writes ol, le, ch, fr, lc -/

@[simp] theorem State.contactCloses_now : (s.contactCloses).now = s.now := by
  simp only [State.contactCloses]; (repeat' split) <;> simp
@[simp] theorem State.contactCloses_powered : (s.contactCloses).powered = s.powered := by
  simp only [State.contactCloses]; (repeat' split) <;> simp
@[simp] theorem State.contactCloses_rstnLow : (s.contactCloses).rstnLow = s.rstnLow := by
  simp only [State.contactCloses]; (repeat' split) <;> simp
@[simp] theorem State.contactCloses_fullinClosed : (s.contactCloses).fullinClosed = s.fullinClosed := by
  simp only [State.contactCloses]; (repeat' split) <;> simp
@[simp] theorem State.contactCloses_phinInBand : (s.contactCloses).phinInBand = s.phinInBand := by
  simp only [State.contactCloses]; (repeat' split) <;> simp
@[simp] theorem State.contactCloses_cl : (s.contactCloses).cl = s.cl := by
  simp only [State.contactCloses]; (repeat' split) <;> simp
@[simp] theorem State.contactCloses_pfe : (s.contactCloses).pfe = s.pfe := by
  simp only [State.contactCloses]; (repeat' split) <;> simp
@[simp] theorem State.contactCloses_pt : (s.contactCloses).pt = s.pt := by
  simp only [State.contactCloses]; (repeat' split) <;> simp
@[simp] theorem State.contactCloses_pa : (s.contactCloses).pa = s.pa := by
  simp only [State.contactCloses]; (repeat' split) <;> simp
@[simp] theorem State.contactCloses_dc : (s.contactCloses).dc = s.dc := by
  simp only [State.contactCloses]; (repeat' split) <;> simp
@[simp] theorem State.contactCloses_pending : (s.contactCloses).pending = s.pending := by
  simp only [State.contactCloses]; (repeat' split) <;> simp

/-! ### contactOpens: writes ol, lc -/

@[simp] theorem State.contactOpens_now : (s.contactOpens).now = s.now := by
  simp only [State.contactOpens]; (repeat' split) <;> simp
@[simp] theorem State.contactOpens_powered : (s.contactOpens).powered = s.powered := by
  simp only [State.contactOpens]; (repeat' split) <;> simp
@[simp] theorem State.contactOpens_rstnLow : (s.contactOpens).rstnLow = s.rstnLow := by
  simp only [State.contactOpens]; (repeat' split) <;> simp
@[simp] theorem State.contactOpens_fullinClosed : (s.contactOpens).fullinClosed = s.fullinClosed := by
  simp only [State.contactOpens]; (repeat' split) <;> simp
@[simp] theorem State.contactOpens_phinInBand : (s.contactOpens).phinInBand = s.phinInBand := by
  simp only [State.contactOpens]; (repeat' split) <;> simp
@[simp] theorem State.contactOpens_cl : (s.contactOpens).cl = s.cl := by
  simp only [State.contactOpens]; (repeat' split) <;> simp
@[simp] theorem State.contactOpens_pfe : (s.contactOpens).pfe = s.pfe := by
  simp only [State.contactOpens]; (repeat' split) <;> simp
@[simp] theorem State.contactOpens_pt : (s.contactOpens).pt = s.pt := by
  simp only [State.contactOpens]; (repeat' split) <;> simp
@[simp] theorem State.contactOpens_pa : (s.contactOpens).pa = s.pa := by
  simp only [State.contactOpens]; (repeat' split) <;> simp
@[simp] theorem State.contactOpens_dc : (s.contactOpens).dc = s.dc := by
  simp only [State.contactOpens]; (repeat' split) <;> simp
@[simp] theorem State.contactOpens_le : (s.contactOpens).le = s.le := by
  simp only [State.contactOpens]; (repeat' split) <;> simp
@[simp] theorem State.contactOpens_ch : (s.contactOpens).ch = s.ch := by
  simp only [State.contactOpens]; (repeat' split) <;> simp
@[simp] theorem State.contactOpens_fr : (s.contactOpens).fr = s.fr := by
  simp only [State.contactOpens]; (repeat' split) <;> simp
@[simp] theorem State.contactOpens_pending : (s.contactOpens).pending = s.pending := by
  simp only [State.contactOpens]; (repeat' split) <;> simp

/-! ### placeLevel: writes le, lc -/

@[simp] theorem State.placeLevel_now : (s.placeLevel).now = s.now := rfl
@[simp] theorem State.placeLevel_powered : (s.placeLevel).powered = s.powered := rfl
@[simp] theorem State.placeLevel_rstnLow : (s.placeLevel).rstnLow = s.rstnLow := rfl
@[simp] theorem State.placeLevel_fullinClosed : (s.placeLevel).fullinClosed = s.fullinClosed := rfl
@[simp] theorem State.placeLevel_phinInBand : (s.placeLevel).phinInBand = s.phinInBand := rfl
@[simp] theorem State.placeLevel_cl : (s.placeLevel).cl = s.cl := rfl
@[simp] theorem State.placeLevel_pfe : (s.placeLevel).pfe = s.pfe := rfl
@[simp] theorem State.placeLevel_pt : (s.placeLevel).pt = s.pt := rfl
@[simp] theorem State.placeLevel_pa : (s.placeLevel).pa = s.pa := rfl
@[simp] theorem State.placeLevel_dc : (s.placeLevel).dc = s.dc := rfl
@[simp] theorem State.placeLevel_ol : (s.placeLevel).ol = s.ol := rfl
@[simp] theorem State.placeLevel_ch : (s.placeLevel).ch = s.ch := rfl
@[simp] theorem State.placeLevel_fr : (s.placeLevel).fr = s.fr := rfl
@[simp] theorem State.placeLevel_pending : (s.placeLevel).pending = s.pending := rfl

/-! ### report: writes le, lc -/

@[simp] theorem State.report_now (y : Nat) : (s.report y).now = s.now := by
  simp only [State.report]; split <;> simp
@[simp] theorem State.report_powered (y : Nat) : (s.report y).powered = s.powered := by
  simp only [State.report]; split <;> simp
@[simp] theorem State.report_rstnLow (y : Nat) : (s.report y).rstnLow = s.rstnLow := by
  simp only [State.report]; split <;> simp
@[simp] theorem State.report_fullinClosed (y : Nat) : (s.report y).fullinClosed = s.fullinClosed := by
  simp only [State.report]; split <;> simp
@[simp] theorem State.report_phinInBand (y : Nat) : (s.report y).phinInBand = s.phinInBand := by
  simp only [State.report]; split <;> simp
@[simp] theorem State.report_cl (y : Nat) : (s.report y).cl = s.cl := by
  simp only [State.report]; split <;> simp
@[simp] theorem State.report_pfe (y : Nat) : (s.report y).pfe = s.pfe := by
  simp only [State.report]; split <;> simp
@[simp] theorem State.report_pt (y : Nat) : (s.report y).pt = s.pt := by
  simp only [State.report]; split <;> simp
@[simp] theorem State.report_pa (y : Nat) : (s.report y).pa = s.pa := by
  simp only [State.report]; split <;> simp
@[simp] theorem State.report_dc (y : Nat) : (s.report y).dc = s.dc := by
  simp only [State.report]; split <;> simp
@[simp] theorem State.report_ol (y : Nat) : (s.report y).ol = s.ol := by
  simp only [State.report]; split <;> simp
@[simp] theorem State.report_ch (y : Nat) : (s.report y).ch = s.ch := by
  simp only [State.report]; split <;> simp
@[simp] theorem State.report_fr (y : Nat) : (s.report y).fr = s.fr := by
  simp only [State.report]; split <;> simp
@[simp] theorem State.report_pending (y : Nat) : (s.report y).pending = s.pending := by
  simp only [State.report]; split <;> simp

/-! ### updateListening: writes le, lc, ch, fr, dc, pa -/

@[simp] theorem State.updateListening_now : (s.updateListening).now = s.now := by
  simp [State.updateListening]
@[simp] theorem State.updateListening_powered : (s.updateListening).powered = s.powered := by
  simp [State.updateListening]
@[simp] theorem State.updateListening_rstnLow : (s.updateListening).rstnLow = s.rstnLow := by
  simp [State.updateListening]
@[simp] theorem State.updateListening_fullinClosed : (s.updateListening).fullinClosed = s.fullinClosed := by
  simp [State.updateListening]
@[simp] theorem State.updateListening_phinInBand : (s.updateListening).phinInBand = s.phinInBand := by
  simp [State.updateListening]
@[simp] theorem State.updateListening_cl : (s.updateListening).cl = s.cl := by
  simp [State.updateListening]
@[simp] theorem State.updateListening_pfe : (s.updateListening).pfe = s.pfe := by
  simp [State.updateListening]
@[simp] theorem State.updateListening_pt : (s.updateListening).pt = s.pt := by
  simp [State.updateListening]
@[simp] theorem State.updateListening_ol : (s.updateListening).ol = s.ol := by
  simp [State.updateListening]
@[simp] theorem State.updateListening_pending : (s.updateListening).pending = s.pending := by
  simp [State.updateListening]

/-! ### updateRunning: writes le, lc, ch, fr, dc, pa -/

@[simp] theorem State.updateRunning_now : (s.updateRunning).now = s.now := by
  simp [State.updateRunning]
@[simp] theorem State.updateRunning_powered : (s.updateRunning).powered = s.powered := by
  simp [State.updateRunning]
@[simp] theorem State.updateRunning_rstnLow : (s.updateRunning).rstnLow = s.rstnLow := by
  simp [State.updateRunning]
@[simp] theorem State.updateRunning_fullinClosed : (s.updateRunning).fullinClosed = s.fullinClosed := by
  simp [State.updateRunning]
@[simp] theorem State.updateRunning_phinInBand : (s.updateRunning).phinInBand = s.phinInBand := by
  simp [State.updateRunning]
@[simp] theorem State.updateRunning_cl : (s.updateRunning).cl = s.cl := by
  simp [State.updateRunning]
@[simp] theorem State.updateRunning_pfe : (s.updateRunning).pfe = s.pfe := by
  simp [State.updateRunning]
@[simp] theorem State.updateRunning_pt : (s.updateRunning).pt = s.pt := by
  simp [State.updateRunning]
@[simp] theorem State.updateRunning_ol : (s.updateRunning).ol = s.ol := by
  simp [State.updateRunning]
@[simp] theorem State.updateRunning_pending : (s.updateRunning).pending = s.pending := by
  simp [State.updateRunning]

/-! ### updateFallback: writes le, lc, ch, fr -/

@[simp] theorem State.updateFallback_now : (s.updateFallback).now = s.now := by
  simp [State.updateFallback]
@[simp] theorem State.updateFallback_powered : (s.updateFallback).powered = s.powered := by
  simp [State.updateFallback]
@[simp] theorem State.updateFallback_rstnLow : (s.updateFallback).rstnLow = s.rstnLow := by
  simp [State.updateFallback]
@[simp] theorem State.updateFallback_fullinClosed : (s.updateFallback).fullinClosed = s.fullinClosed := by
  simp [State.updateFallback]
@[simp] theorem State.updateFallback_phinInBand : (s.updateFallback).phinInBand = s.phinInBand := by
  simp [State.updateFallback]
@[simp] theorem State.updateFallback_cl : (s.updateFallback).cl = s.cl := by
  simp [State.updateFallback]
@[simp] theorem State.updateFallback_pfe : (s.updateFallback).pfe = s.pfe := by
  simp [State.updateFallback]
@[simp] theorem State.updateFallback_pt : (s.updateFallback).pt = s.pt := by
  simp [State.updateFallback]
@[simp] theorem State.updateFallback_pa : (s.updateFallback).pa = s.pa := by
  simp [State.updateFallback]
@[simp] theorem State.updateFallback_dc : (s.updateFallback).dc = s.dc := by
  simp [State.updateFallback]
@[simp] theorem State.updateFallback_ol : (s.updateFallback).ol = s.ol := by
  simp [State.updateFallback]
@[simp] theorem State.updateFallback_pending : (s.updateFallback).pending = s.pending := by
  simp [State.updateFallback]

/-! ### levelUpdate: writes le, lc, ch, fr, dc, pa -/

@[simp] theorem State.levelUpdate_now : (s.levelUpdate).now = s.now := by
  simp only [State.levelUpdate]; (repeat' split) <;> simp
@[simp] theorem State.levelUpdate_powered : (s.levelUpdate).powered = s.powered := by
  simp only [State.levelUpdate]; (repeat' split) <;> simp
@[simp] theorem State.levelUpdate_rstnLow : (s.levelUpdate).rstnLow = s.rstnLow := by
  simp only [State.levelUpdate]; (repeat' split) <;> simp
@[simp] theorem State.levelUpdate_fullinClosed : (s.levelUpdate).fullinClosed = s.fullinClosed := by
  simp only [State.levelUpdate]; (repeat' split) <;> simp
@[simp] theorem State.levelUpdate_phinInBand : (s.levelUpdate).phinInBand = s.phinInBand := by
  simp only [State.levelUpdate]; (repeat' split) <;> simp
@[simp] theorem State.levelUpdate_cl : (s.levelUpdate).cl = s.cl := by
  simp only [State.levelUpdate]; (repeat' split) <;> simp
@[simp] theorem State.levelUpdate_pfe : (s.levelUpdate).pfe = s.pfe := by
  simp only [State.levelUpdate]; (repeat' split) <;> simp
@[simp] theorem State.levelUpdate_pt : (s.levelUpdate).pt = s.pt := by
  simp only [State.levelUpdate]; (repeat' split) <;> simp
@[simp] theorem State.levelUpdate_ol : (s.levelUpdate).ol = s.ol := by
  simp only [State.levelUpdate]; (repeat' split) <;> simp
@[simp] theorem State.levelUpdate_pending : (s.levelUpdate).pending = s.pending := by
  simp only [State.levelUpdate]; (repeat' split) <;> simp

/-! ### enterRunning: writes le, pt, pa, fr -/

@[simp] theorem State.enterRunning_now : (s.enterRunning).now = s.now := by
  simp [State.enterRunning]
@[simp] theorem State.enterRunning_powered : (s.enterRunning).powered = s.powered := by
  simp [State.enterRunning]
@[simp] theorem State.enterRunning_rstnLow : (s.enterRunning).rstnLow = s.rstnLow := by
  simp [State.enterRunning]
@[simp] theorem State.enterRunning_fullinClosed : (s.enterRunning).fullinClosed = s.fullinClosed := by
  simp [State.enterRunning]
@[simp] theorem State.enterRunning_phinInBand : (s.enterRunning).phinInBand = s.phinInBand := by
  simp [State.enterRunning]
@[simp] theorem State.enterRunning_cl : (s.enterRunning).cl = s.cl := by
  simp [State.enterRunning]
@[simp] theorem State.enterRunning_pfe : (s.enterRunning).pfe = s.pfe := by
  simp [State.enterRunning]
@[simp] theorem State.enterRunning_dc : (s.enterRunning).dc = s.dc := by
  simp [State.enterRunning]
@[simp] theorem State.enterRunning_ol : (s.enterRunning).ol = s.ol := by
  simp [State.enterRunning]
@[simp] theorem State.enterRunning_ch : (s.enterRunning).ch = s.ch := by
  simp [State.enterRunning]
@[simp] theorem State.enterRunning_lc : (s.enterRunning).lc = s.lc := by
  simp [State.enterRunning]
@[simp] theorem State.enterRunning_pending : (s.enterRunning).pending = s.pending := by
  simp [State.enterRunning]

/-! ### enterListening: writes cl, fr, lc, dc, pt, le, ch, pfe -/

@[simp] theorem State.enterListening_now (r : Record) (b : Bool) : (s.enterListening r b).now = s.now := by
  simp [State.enterListening]
@[simp] theorem State.enterListening_powered (r : Record) (b : Bool) : (s.enterListening r b).powered = s.powered := by
  simp [State.enterListening]
@[simp] theorem State.enterListening_rstnLow (r : Record) (b : Bool) : (s.enterListening r b).rstnLow = s.rstnLow := by
  simp [State.enterListening]
@[simp] theorem State.enterListening_fullinClosed (r : Record) (b : Bool) : (s.enterListening r b).fullinClosed = s.fullinClosed := by
  simp [State.enterListening]
@[simp] theorem State.enterListening_phinInBand (r : Record) (b : Bool) : (s.enterListening r b).phinInBand = s.phinInBand := by
  simp [State.enterListening]
@[simp] theorem State.enterListening_pa (r : Record) (b : Bool) : (s.enterListening r b).pa = s.pa := by
  simp [State.enterListening]
@[simp] theorem State.enterListening_ol (r : Record) (b : Bool) : (s.enterListening r b).ol = s.ol := by
  simp [State.enterListening]
@[simp] theorem State.enterListening_pending (r : Record) (b : Bool) : (s.enterListening r b).pending = s.pending := by
  simp [State.enterListening]

/-! ### enterFallback: writes cl, fr, lc, dc, le, ch -/

@[simp] theorem State.enterFallback_now (p : LineParams) (v : FallbackValues) (n : Nat) : (s.enterFallback p v n).now = s.now := by
  simp [State.enterFallback]
@[simp] theorem State.enterFallback_powered (p : LineParams) (v : FallbackValues) (n : Nat) : (s.enterFallback p v n).powered = s.powered := by
  simp [State.enterFallback]
@[simp] theorem State.enterFallback_rstnLow (p : LineParams) (v : FallbackValues) (n : Nat) : (s.enterFallback p v n).rstnLow = s.rstnLow := by
  simp [State.enterFallback]
@[simp] theorem State.enterFallback_fullinClosed (p : LineParams) (v : FallbackValues) (n : Nat) : (s.enterFallback p v n).fullinClosed = s.fullinClosed := by
  simp [State.enterFallback]
@[simp] theorem State.enterFallback_phinInBand (p : LineParams) (v : FallbackValues) (n : Nat) : (s.enterFallback p v n).phinInBand = s.phinInBand := by
  simp [State.enterFallback]
@[simp] theorem State.enterFallback_pfe (p : LineParams) (v : FallbackValues) (n : Nat) : (s.enterFallback p v n).pfe = s.pfe := by
  simp [State.enterFallback]
@[simp] theorem State.enterFallback_pt (p : LineParams) (v : FallbackValues) (n : Nat) : (s.enterFallback p v n).pt = s.pt := by
  simp [State.enterFallback]
@[simp] theorem State.enterFallback_pa (p : LineParams) (v : FallbackValues) (n : Nat) : (s.enterFallback p v n).pa = s.pa := by
  simp [State.enterFallback]
@[simp] theorem State.enterFallback_ol (p : LineParams) (v : FallbackValues) (n : Nat) : (s.enterFallback p v n).ol = s.ol := by
  simp [State.enterFallback]
@[simp] theorem State.enterFallback_pending (p : LineParams) (v : FallbackValues) (n : Nat) : (s.enterFallback p v n).pending = s.pending := by
  simp [State.enterFallback]

/-! ### configComplete: writes cl, fr, lc, dc, pt, le, ch, pfe -/

@[simp] theorem State.configComplete_now (p : List Byte) : (s.configComplete p).now = s.now := by
  simp only [State.configComplete]; (repeat' split) <;> simp
@[simp] theorem State.configComplete_powered (p : List Byte) : (s.configComplete p).powered = s.powered := by
  simp only [State.configComplete]; (repeat' split) <;> simp
@[simp] theorem State.configComplete_rstnLow (p : List Byte) : (s.configComplete p).rstnLow = s.rstnLow := by
  simp only [State.configComplete]; (repeat' split) <;> simp
@[simp] theorem State.configComplete_fullinClosed (p : List Byte) : (s.configComplete p).fullinClosed = s.fullinClosed := by
  simp only [State.configComplete]; (repeat' split) <;> simp
@[simp] theorem State.configComplete_phinInBand (p : List Byte) : (s.configComplete p).phinInBand = s.phinInBand := by
  simp only [State.configComplete]; (repeat' split) <;> simp
@[simp] theorem State.configComplete_pa (p : List Byte) : (s.configComplete p).pa = s.pa := by
  simp only [State.configComplete]; (repeat' split) <;> simp
@[simp] theorem State.configComplete_ol (p : List Byte) : (s.configComplete p).ol = s.ol := by
  simp only [State.configComplete]; (repeat' split) <;> simp
@[simp] theorem State.configComplete_pending (p : List Byte) : (s.configComplete p).pending = s.pending := by
  simp only [State.configComplete]; (repeat' split) <;> simp

/-! ### trip: writes ch, fr -/

@[simp] theorem State.trip_now (k : ChannelId) : (s.trip k).now = s.now := by
  simp only [State.trip]; (repeat' split) <;> simp
@[simp] theorem State.trip_powered (k : ChannelId) : (s.trip k).powered = s.powered := by
  simp only [State.trip]; (repeat' split) <;> simp
@[simp] theorem State.trip_rstnLow (k : ChannelId) : (s.trip k).rstnLow = s.rstnLow := by
  simp only [State.trip]; (repeat' split) <;> simp
@[simp] theorem State.trip_fullinClosed (k : ChannelId) : (s.trip k).fullinClosed = s.fullinClosed := by
  simp only [State.trip]; (repeat' split) <;> simp
@[simp] theorem State.trip_phinInBand (k : ChannelId) : (s.trip k).phinInBand = s.phinInBand := by
  simp only [State.trip]; (repeat' split) <;> simp
@[simp] theorem State.trip_cl (k : ChannelId) : (s.trip k).cl = s.cl := by
  simp only [State.trip]; (repeat' split) <;> simp
@[simp] theorem State.trip_pfe (k : ChannelId) : (s.trip k).pfe = s.pfe := by
  simp only [State.trip]; (repeat' split) <;> simp
@[simp] theorem State.trip_pt (k : ChannelId) : (s.trip k).pt = s.pt := by
  simp only [State.trip]; (repeat' split) <;> simp
@[simp] theorem State.trip_pa (k : ChannelId) : (s.trip k).pa = s.pa := by
  simp only [State.trip]; (repeat' split) <;> simp
@[simp] theorem State.trip_dc (k : ChannelId) : (s.trip k).dc = s.dc := by
  simp only [State.trip]; (repeat' split) <;> simp
@[simp] theorem State.trip_le (k : ChannelId) : (s.trip k).le = s.le := by
  simp only [State.trip]; (repeat' split) <;> simp
@[simp] theorem State.trip_ol (k : ChannelId) : (s.trip k).ol = s.ol := by
  simp only [State.trip]; (repeat' split) <;> simp
@[simp] theorem State.trip_lc (k : ChannelId) : (s.trip k).lc = s.lc := by
  simp only [State.trip]; (repeat' split) <;> simp
@[simp] theorem State.trip_pending (k : ChannelId) : (s.trip k).pending = s.pending := by
  simp only [State.trip]; (repeat' split) <;> simp

/-! ### loadCurrent: writes ch, fr -/

@[simp] theorem State.loadCurrent_now (k : ChannelId) : (s.loadCurrent k).now = s.now := by
  simp only [State.loadCurrent]; (repeat' split) <;> simp
@[simp] theorem State.loadCurrent_powered (k : ChannelId) : (s.loadCurrent k).powered = s.powered := by
  simp only [State.loadCurrent]; (repeat' split) <;> simp
@[simp] theorem State.loadCurrent_rstnLow (k : ChannelId) : (s.loadCurrent k).rstnLow = s.rstnLow := by
  simp only [State.loadCurrent]; (repeat' split) <;> simp
@[simp] theorem State.loadCurrent_fullinClosed (k : ChannelId) : (s.loadCurrent k).fullinClosed = s.fullinClosed := by
  simp only [State.loadCurrent]; (repeat' split) <;> simp
@[simp] theorem State.loadCurrent_phinInBand (k : ChannelId) : (s.loadCurrent k).phinInBand = s.phinInBand := by
  simp only [State.loadCurrent]; (repeat' split) <;> simp
@[simp] theorem State.loadCurrent_cl (k : ChannelId) : (s.loadCurrent k).cl = s.cl := by
  simp only [State.loadCurrent]; (repeat' split) <;> simp
@[simp] theorem State.loadCurrent_pfe (k : ChannelId) : (s.loadCurrent k).pfe = s.pfe := by
  simp only [State.loadCurrent]; (repeat' split) <;> simp
@[simp] theorem State.loadCurrent_pt (k : ChannelId) : (s.loadCurrent k).pt = s.pt := by
  simp only [State.loadCurrent]; (repeat' split) <;> simp
@[simp] theorem State.loadCurrent_pa (k : ChannelId) : (s.loadCurrent k).pa = s.pa := by
  simp only [State.loadCurrent]; (repeat' split) <;> simp
@[simp] theorem State.loadCurrent_dc (k : ChannelId) : (s.loadCurrent k).dc = s.dc := by
  simp only [State.loadCurrent]; (repeat' split) <;> simp
@[simp] theorem State.loadCurrent_le (k : ChannelId) : (s.loadCurrent k).le = s.le := by
  simp only [State.loadCurrent]; (repeat' split) <;> simp
@[simp] theorem State.loadCurrent_ol (k : ChannelId) : (s.loadCurrent k).ol = s.ol := by
  simp only [State.loadCurrent]; (repeat' split) <;> simp
@[simp] theorem State.loadCurrent_lc (k : ChannelId) : (s.loadCurrent k).lc = s.lc := by
  simp only [State.loadCurrent]; (repeat' split) <;> simp
@[simp] theorem State.loadCurrent_pending (k : ChannelId) : (s.loadCurrent k).pending = s.pending := by
  simp only [State.loadCurrent]; (repeat' split) <;> simp

/-! ### clearChannels: writes ch, fr -/

@[simp] theorem State.clearChannels_now (f : ClearFields) : (s.clearChannels f).now = s.now := by
  simp only [State.clearChannels]; (repeat' split) <;> simp
@[simp] theorem State.clearChannels_powered (f : ClearFields) : (s.clearChannels f).powered = s.powered := by
  simp only [State.clearChannels]; (repeat' split) <;> simp
@[simp] theorem State.clearChannels_rstnLow (f : ClearFields) : (s.clearChannels f).rstnLow = s.rstnLow := by
  simp only [State.clearChannels]; (repeat' split) <;> simp
@[simp] theorem State.clearChannels_fullinClosed (f : ClearFields) : (s.clearChannels f).fullinClosed = s.fullinClosed := by
  simp only [State.clearChannels]; (repeat' split) <;> simp
@[simp] theorem State.clearChannels_phinInBand (f : ClearFields) : (s.clearChannels f).phinInBand = s.phinInBand := by
  simp only [State.clearChannels]; (repeat' split) <;> simp
@[simp] theorem State.clearChannels_cl (f : ClearFields) : (s.clearChannels f).cl = s.cl := by
  simp only [State.clearChannels]; (repeat' split) <;> simp
@[simp] theorem State.clearChannels_pfe (f : ClearFields) : (s.clearChannels f).pfe = s.pfe := by
  simp only [State.clearChannels]; (repeat' split) <;> simp
@[simp] theorem State.clearChannels_pt (f : ClearFields) : (s.clearChannels f).pt = s.pt := by
  simp only [State.clearChannels]; (repeat' split) <;> simp
@[simp] theorem State.clearChannels_pa (f : ClearFields) : (s.clearChannels f).pa = s.pa := by
  simp only [State.clearChannels]; (repeat' split) <;> simp
@[simp] theorem State.clearChannels_dc (f : ClearFields) : (s.clearChannels f).dc = s.dc := by
  simp only [State.clearChannels]; (repeat' split) <;> simp
@[simp] theorem State.clearChannels_le (f : ClearFields) : (s.clearChannels f).le = s.le := by
  simp only [State.clearChannels]; (repeat' split) <;> simp
@[simp] theorem State.clearChannels_ol (f : ClearFields) : (s.clearChannels f).ol = s.ol := by
  simp only [State.clearChannels]; (repeat' split) <;> simp
@[simp] theorem State.clearChannels_lc (f : ClearFields) : (s.clearChannels f).lc = s.lc := by
  simp only [State.clearChannels]; (repeat' split) <;> simp
@[simp] theorem State.clearChannels_pending (f : ClearFields) : (s.clearChannels f).pending = s.pending := by
  simp only [State.clearChannels]; (repeat' split) <;> simp

/-! ### takeClear: writes ch, fr -/

@[simp] theorem State.takeClear_now (r : RawFrame) : (s.takeClear r).now = s.now := by
  simp [State.takeClear]
@[simp] theorem State.takeClear_powered (r : RawFrame) : (s.takeClear r).powered = s.powered := by
  simp [State.takeClear]
@[simp] theorem State.takeClear_rstnLow (r : RawFrame) : (s.takeClear r).rstnLow = s.rstnLow := by
  simp [State.takeClear]
@[simp] theorem State.takeClear_fullinClosed (r : RawFrame) : (s.takeClear r).fullinClosed = s.fullinClosed := by
  simp [State.takeClear]
@[simp] theorem State.takeClear_phinInBand (r : RawFrame) : (s.takeClear r).phinInBand = s.phinInBand := by
  simp [State.takeClear]
@[simp] theorem State.takeClear_cl (r : RawFrame) : (s.takeClear r).cl = s.cl := by
  simp [State.takeClear]
@[simp] theorem State.takeClear_pfe (r : RawFrame) : (s.takeClear r).pfe = s.pfe := by
  simp [State.takeClear]
@[simp] theorem State.takeClear_pt (r : RawFrame) : (s.takeClear r).pt = s.pt := by
  simp [State.takeClear]
@[simp] theorem State.takeClear_pa (r : RawFrame) : (s.takeClear r).pa = s.pa := by
  simp [State.takeClear]
@[simp] theorem State.takeClear_dc (r : RawFrame) : (s.takeClear r).dc = s.dc := by
  simp [State.takeClear]
@[simp] theorem State.takeClear_le (r : RawFrame) : (s.takeClear r).le = s.le := by
  simp [State.takeClear]
@[simp] theorem State.takeClear_ol (r : RawFrame) : (s.takeClear r).ol = s.ol := by
  simp [State.takeClear]
@[simp] theorem State.takeClear_lc (r : RawFrame) : (s.takeClear r).lc = s.lc := by
  simp [State.takeClear]
@[simp] theorem State.takeClear_pending (r : RawFrame) : (s.takeClear r).pending = s.pending := by
  simp [State.takeClear]

/-! ### noteSent: writes pfe, le -/

@[simp] theorem State.noteSent_now (k : SlotId) : (s.noteSent k).now = s.now := by
  cases k <;> simp [State.noteSent]
@[simp] theorem State.noteSent_powered (k : SlotId) : (s.noteSent k).powered = s.powered := by
  cases k <;> simp [State.noteSent]
@[simp] theorem State.noteSent_rstnLow (k : SlotId) : (s.noteSent k).rstnLow = s.rstnLow := by
  cases k <;> simp [State.noteSent]
@[simp] theorem State.noteSent_fullinClosed (k : SlotId) : (s.noteSent k).fullinClosed = s.fullinClosed := by
  cases k <;> simp [State.noteSent]
@[simp] theorem State.noteSent_phinInBand (k : SlotId) : (s.noteSent k).phinInBand = s.phinInBand := by
  cases k <;> simp [State.noteSent]
@[simp] theorem State.noteSent_cl (k : SlotId) : (s.noteSent k).cl = s.cl := by
  cases k <;> simp [State.noteSent]
@[simp] theorem State.noteSent_pt (k : SlotId) : (s.noteSent k).pt = s.pt := by
  cases k <;> simp [State.noteSent]
@[simp] theorem State.noteSent_pa (k : SlotId) : (s.noteSent k).pa = s.pa := by
  cases k <;> simp [State.noteSent]
@[simp] theorem State.noteSent_dc (k : SlotId) : (s.noteSent k).dc = s.dc := by
  cases k <;> simp [State.noteSent]
@[simp] theorem State.noteSent_ol (k : SlotId) : (s.noteSent k).ol = s.ol := by
  cases k <;> simp [State.noteSent]
@[simp] theorem State.noteSent_ch (k : SlotId) : (s.noteSent k).ch = s.ch := by
  cases k <;> simp [State.noteSent]
@[simp] theorem State.noteSent_lc (k : SlotId) : (s.noteSent k).lc = s.lc := by
  cases k <;> simp [State.noteSent]
@[simp] theorem State.noteSent_fr (k : SlotId) : (s.noteSent k).fr = s.fr := by
  cases k <;> simp [State.noteSent]
@[simp] theorem State.noteSent_pending (k : SlotId) : (s.noteSent k).pending = s.pending := by
  cases k <;> simp [State.noteSent]

/-! ### finishSending: writes lc, pfe, le -/

@[simp] theorem State.finishSending_now (a : Attempt) : (s.finishSending a).now = s.now := by
  simp [State.finishSending]
@[simp] theorem State.finishSending_powered (a : Attempt) : (s.finishSending a).powered = s.powered := by
  simp [State.finishSending]
@[simp] theorem State.finishSending_rstnLow (a : Attempt) : (s.finishSending a).rstnLow = s.rstnLow := by
  simp [State.finishSending]
@[simp] theorem State.finishSending_fullinClosed (a : Attempt) : (s.finishSending a).fullinClosed = s.fullinClosed := by
  simp [State.finishSending]
@[simp] theorem State.finishSending_phinInBand (a : Attempt) : (s.finishSending a).phinInBand = s.phinInBand := by
  simp [State.finishSending]
@[simp] theorem State.finishSending_cl (a : Attempt) : (s.finishSending a).cl = s.cl := by
  simp [State.finishSending]
@[simp] theorem State.finishSending_pt (a : Attempt) : (s.finishSending a).pt = s.pt := by
  simp [State.finishSending]
@[simp] theorem State.finishSending_pa (a : Attempt) : (s.finishSending a).pa = s.pa := by
  simp [State.finishSending]
@[simp] theorem State.finishSending_dc (a : Attempt) : (s.finishSending a).dc = s.dc := by
  simp [State.finishSending]
@[simp] theorem State.finishSending_ol (a : Attempt) : (s.finishSending a).ol = s.ol := by
  simp [State.finishSending]
@[simp] theorem State.finishSending_ch (a : Attempt) : (s.finishSending a).ch = s.ch := by
  simp [State.finishSending]
@[simp] theorem State.finishSending_fr (a : Attempt) : (s.finishSending a).fr = s.fr := by
  simp [State.finishSending]
@[simp] theorem State.finishSending_pending (a : Attempt) : (s.finishSending a).pending = s.pending := by
  simp [State.finishSending]

/-! ### collide: writes lc, fr -/

@[simp] theorem State.collide_now (a : Attempt) : (s.collide a).now = s.now := by
  simp only [State.collide]; (repeat' split) <;> simp
@[simp] theorem State.collide_powered (a : Attempt) : (s.collide a).powered = s.powered := by
  simp only [State.collide]; (repeat' split) <;> simp
@[simp] theorem State.collide_rstnLow (a : Attempt) : (s.collide a).rstnLow = s.rstnLow := by
  simp only [State.collide]; (repeat' split) <;> simp
@[simp] theorem State.collide_fullinClosed (a : Attempt) : (s.collide a).fullinClosed = s.fullinClosed := by
  simp only [State.collide]; (repeat' split) <;> simp
@[simp] theorem State.collide_phinInBand (a : Attempt) : (s.collide a).phinInBand = s.phinInBand := by
  simp only [State.collide]; (repeat' split) <;> simp
@[simp] theorem State.collide_cl (a : Attempt) : (s.collide a).cl = s.cl := by
  simp only [State.collide]; (repeat' split) <;> simp
@[simp] theorem State.collide_pfe (a : Attempt) : (s.collide a).pfe = s.pfe := by
  simp only [State.collide]; (repeat' split) <;> simp
@[simp] theorem State.collide_pt (a : Attempt) : (s.collide a).pt = s.pt := by
  simp only [State.collide]; (repeat' split) <;> simp
@[simp] theorem State.collide_pa (a : Attempt) : (s.collide a).pa = s.pa := by
  simp only [State.collide]; (repeat' split) <;> simp
@[simp] theorem State.collide_dc (a : Attempt) : (s.collide a).dc = s.dc := by
  simp only [State.collide]; (repeat' split) <;> simp
@[simp] theorem State.collide_le (a : Attempt) : (s.collide a).le = s.le := by
  simp only [State.collide]; (repeat' split) <;> simp
@[simp] theorem State.collide_ol (a : Attempt) : (s.collide a).ol = s.ol := by
  simp only [State.collide]; (repeat' split) <;> simp
@[simp] theorem State.collide_ch (a : Attempt) : (s.collide a).ch = s.ch := by
  simp only [State.collide]; (repeat' split) <;> simp
@[simp] theorem State.collide_pending (a : Attempt) : (s.collide a).pending = s.pending := by
  simp only [State.collide]; (repeat' split) <;> simp

/-! ### takeReset: writes cl, pfe, pt, pa, dc, le, ol, ch, lc, fr -/

@[simp] theorem State.takeReset_now : (s.takeReset).now = s.now := rfl
@[simp] theorem State.takeReset_powered : (s.takeReset).powered = s.powered := rfl
@[simp] theorem State.takeReset_rstnLow : (s.takeReset).rstnLow = s.rstnLow := rfl
@[simp] theorem State.takeReset_fullinClosed : (s.takeReset).fullinClosed = s.fullinClosed := rfl
@[simp] theorem State.takeReset_phinInBand : (s.takeReset).phinInBand = s.phinInBand := rfl
@[simp] theorem State.takeReset_pending : (s.takeReset).pending = s.pending := rfl

/-! ### dispatch: writes cl, pfe, pt, pa, dc, le, ol, ch, lc, fr -/

@[simp] theorem State.dispatch_now (k : FrameKind) (r : RawFrame) : (s.dispatch k r).now = s.now := by
  cases k <;> simp [State.dispatch]
@[simp] theorem State.dispatch_powered (k : FrameKind) (r : RawFrame) : (s.dispatch k r).powered = s.powered := by
  cases k <;> simp [State.dispatch]
@[simp] theorem State.dispatch_rstnLow (k : FrameKind) (r : RawFrame) : (s.dispatch k r).rstnLow = s.rstnLow := by
  cases k <;> simp [State.dispatch]
@[simp] theorem State.dispatch_fullinClosed (k : FrameKind) (r : RawFrame) : (s.dispatch k r).fullinClosed = s.fullinClosed := by
  cases k <;> simp [State.dispatch]
@[simp] theorem State.dispatch_phinInBand (k : FrameKind) (r : RawFrame) : (s.dispatch k r).phinInBand = s.phinInBand := by
  cases k <;> simp [State.dispatch]
@[simp] theorem State.dispatch_pending (k : FrameKind) (r : RawFrame) : (s.dispatch k r).pending = s.pending := by
  cases k <;> simp [State.dispatch]

/-! ### wholeFrame: writes cl, pfe, pt, pa, dc, le, ol, ch, lc, fr -/

@[simp] theorem State.wholeFrame_now (r : RawFrame) : (s.wholeFrame r).now = s.now := by
  simp only [State.wholeFrame]; (repeat' split) <;> simp
@[simp] theorem State.wholeFrame_powered (r : RawFrame) : (s.wholeFrame r).powered = s.powered := by
  simp only [State.wholeFrame]; (repeat' split) <;> simp
@[simp] theorem State.wholeFrame_rstnLow (r : RawFrame) : (s.wholeFrame r).rstnLow = s.rstnLow := by
  simp only [State.wholeFrame]; (repeat' split) <;> simp
@[simp] theorem State.wholeFrame_fullinClosed (r : RawFrame) : (s.wholeFrame r).fullinClosed = s.fullinClosed := by
  simp only [State.wholeFrame]; (repeat' split) <;> simp
@[simp] theorem State.wholeFrame_phinInBand (r : RawFrame) : (s.wholeFrame r).phinInBand = s.phinInBand := by
  simp only [State.wholeFrame]; (repeat' split) <;> simp
@[simp] theorem State.wholeFrame_pending (r : RawFrame) : (s.wholeFrame r).pending = s.pending := by
  simp only [State.wholeFrame]; (repeat' split) <;> simp

/-! ### abandonOverlong: writes lc -/

@[simp] theorem State.abandonOverlong_now (b : Byte) : (s.abandonOverlong b).now = s.now := by
  simp only [State.abandonOverlong]; (repeat' split) <;> simp
@[simp] theorem State.abandonOverlong_powered (b : Byte) : (s.abandonOverlong b).powered = s.powered := by
  simp only [State.abandonOverlong]; (repeat' split) <;> simp
@[simp] theorem State.abandonOverlong_rstnLow (b : Byte) : (s.abandonOverlong b).rstnLow = s.rstnLow := by
  simp only [State.abandonOverlong]; (repeat' split) <;> simp
@[simp] theorem State.abandonOverlong_fullinClosed (b : Byte) : (s.abandonOverlong b).fullinClosed = s.fullinClosed := by
  simp only [State.abandonOverlong]; (repeat' split) <;> simp
@[simp] theorem State.abandonOverlong_phinInBand (b : Byte) : (s.abandonOverlong b).phinInBand = s.phinInBand := by
  simp only [State.abandonOverlong]; (repeat' split) <;> simp
@[simp] theorem State.abandonOverlong_cl (b : Byte) : (s.abandonOverlong b).cl = s.cl := by
  simp only [State.abandonOverlong]; (repeat' split) <;> simp
@[simp] theorem State.abandonOverlong_pfe (b : Byte) : (s.abandonOverlong b).pfe = s.pfe := by
  simp only [State.abandonOverlong]; (repeat' split) <;> simp
@[simp] theorem State.abandonOverlong_pt (b : Byte) : (s.abandonOverlong b).pt = s.pt := by
  simp only [State.abandonOverlong]; (repeat' split) <;> simp
@[simp] theorem State.abandonOverlong_pa (b : Byte) : (s.abandonOverlong b).pa = s.pa := by
  simp only [State.abandonOverlong]; (repeat' split) <;> simp
@[simp] theorem State.abandonOverlong_dc (b : Byte) : (s.abandonOverlong b).dc = s.dc := by
  simp only [State.abandonOverlong]; (repeat' split) <;> simp
@[simp] theorem State.abandonOverlong_le (b : Byte) : (s.abandonOverlong b).le = s.le := by
  simp only [State.abandonOverlong]; (repeat' split) <;> simp
@[simp] theorem State.abandonOverlong_ol (b : Byte) : (s.abandonOverlong b).ol = s.ol := by
  simp only [State.abandonOverlong]; (repeat' split) <;> simp
@[simp] theorem State.abandonOverlong_ch (b : Byte) : (s.abandonOverlong b).ch = s.ch := by
  simp only [State.abandonOverlong]; (repeat' split) <;> simp
@[simp] theorem State.abandonOverlong_fr (b : Byte) : (s.abandonOverlong b).fr = s.fr := by
  simp only [State.abandonOverlong]; (repeat' split) <;> simp
@[simp] theorem State.abandonOverlong_pending (b : Byte) : (s.abandonOverlong b).pending = s.pending := by
  simp only [State.abandonOverlong]; (repeat' split) <;> simp

/-! ### assembled: writes cl, pfe, pt, pa, dc, le, ol, ch, lc, fr -/

@[simp] theorem State.assembled_now (b : List Byte) : (s.assembled b).now = s.now := by
  simp only [State.assembled]; (repeat' split) <;> simp
@[simp] theorem State.assembled_powered (b : List Byte) : (s.assembled b).powered = s.powered := by
  simp only [State.assembled]; (repeat' split) <;> simp
@[simp] theorem State.assembled_rstnLow (b : List Byte) : (s.assembled b).rstnLow = s.rstnLow := by
  simp only [State.assembled]; (repeat' split) <;> simp
@[simp] theorem State.assembled_fullinClosed (b : List Byte) : (s.assembled b).fullinClosed = s.fullinClosed := by
  simp only [State.assembled]; (repeat' split) <;> simp
@[simp] theorem State.assembled_phinInBand (b : List Byte) : (s.assembled b).phinInBand = s.phinInBand := by
  simp only [State.assembled]; (repeat' split) <;> simp
@[simp] theorem State.assembled_pending (b : List Byte) : (s.assembled b).pending = s.pending := by
  simp only [State.assembled]; (repeat' split) <;> simp

/-! ### takeCharacter: writes cl, pfe, pt, pa, dc, le, ol, ch, lc, fr -/

@[simp] theorem State.takeCharacter_now (c : LineChar) : (s.takeCharacter c).now = s.now := by
  simp only [State.takeCharacter]; (repeat' split) <;> simp
@[simp] theorem State.takeCharacter_powered (c : LineChar) : (s.takeCharacter c).powered = s.powered := by
  simp only [State.takeCharacter]; (repeat' split) <;> simp
@[simp] theorem State.takeCharacter_rstnLow (c : LineChar) : (s.takeCharacter c).rstnLow = s.rstnLow := by
  simp only [State.takeCharacter]; (repeat' split) <;> simp
@[simp] theorem State.takeCharacter_fullinClosed (c : LineChar) : (s.takeCharacter c).fullinClosed = s.fullinClosed := by
  simp only [State.takeCharacter]; (repeat' split) <;> simp
@[simp] theorem State.takeCharacter_phinInBand (c : LineChar) : (s.takeCharacter c).phinInBand = s.phinInBand := by
  simp only [State.takeCharacter]; (repeat' split) <;> simp
@[simp] theorem State.takeCharacter_pending (c : LineChar) : (s.takeCharacter c).pending = s.pending := by
  simp only [State.takeCharacter]; (repeat' split) <;> simp

/-! ### arrive: writes cl, pfe, pt, pa, dc, le, ol, ch, lc, fr -/

@[simp] theorem State.arrive_now (k : FrameKind) (f : Frame) : (s.arrive k f).now = s.now := by
  simp only [State.arrive]; (repeat' split) <;> simp
@[simp] theorem State.arrive_powered (k : FrameKind) (f : Frame) : (s.arrive k f).powered = s.powered := by
  simp only [State.arrive]; (repeat' split) <;> simp
@[simp] theorem State.arrive_rstnLow (k : FrameKind) (f : Frame) : (s.arrive k f).rstnLow = s.rstnLow := by
  simp only [State.arrive]; (repeat' split) <;> simp
@[simp] theorem State.arrive_fullinClosed (k : FrameKind) (f : Frame) : (s.arrive k f).fullinClosed = s.fullinClosed := by
  simp only [State.arrive]; (repeat' split) <;> simp
@[simp] theorem State.arrive_phinInBand (k : FrameKind) (f : Frame) : (s.arrive k f).phinInBand = s.phinInBand := by
  simp only [State.arrive]; (repeat' split) <;> simp
@[simp] theorem State.arrive_pending (k : FrameKind) (f : Frame) : (s.arrive k f).pending = s.pending := by
  simp only [State.arrive]; (repeat' split) <;> simp

/-! ### frameStep: writes cl, pfe, pt, pa, dc, le, ol, ch, lc, fr -/

@[simp] theorem State.frameStep_now (k : FrameKind) (f : Frame) : (s.frameStep k f).now = s.now := by
  simp only [State.frameStep]; (repeat' split) <;> simp
@[simp] theorem State.frameStep_powered (k : FrameKind) (f : Frame) : (s.frameStep k f).powered = s.powered := by
  simp only [State.frameStep]; (repeat' split) <;> simp
@[simp] theorem State.frameStep_rstnLow (k : FrameKind) (f : Frame) : (s.frameStep k f).rstnLow = s.rstnLow := by
  simp only [State.frameStep]; (repeat' split) <;> simp
@[simp] theorem State.frameStep_fullinClosed (k : FrameKind) (f : Frame) : (s.frameStep k f).fullinClosed = s.fullinClosed := by
  simp only [State.frameStep]; (repeat' split) <;> simp
@[simp] theorem State.frameStep_phinInBand (k : FrameKind) (f : Frame) : (s.frameStep k f).phinInBand = s.phinInBand := by
  simp only [State.frameStep]; (repeat' split) <;> simp
@[simp] theorem State.frameStep_pending (k : FrameKind) (f : Frame) : (s.frameStep k f).pending = s.pending := by
  simp only [State.frameStep]; (repeat' split) <;> simp

/-! ### readBackCharacter: writes now, lc, pfe, le, fr -/

@[simp] theorem State.readBackCharacter_powered (a : Attempt) (t : Time) (n : Nat) (c : LineChar) : (s.readBackCharacter a t n c).powered = s.powered := by
  simp only [State.readBackCharacter]; (repeat' split) <;> simp
@[simp] theorem State.readBackCharacter_rstnLow (a : Attempt) (t : Time) (n : Nat) (c : LineChar) : (s.readBackCharacter a t n c).rstnLow = s.rstnLow := by
  simp only [State.readBackCharacter]; (repeat' split) <;> simp
@[simp] theorem State.readBackCharacter_fullinClosed (a : Attempt) (t : Time) (n : Nat) (c : LineChar) : (s.readBackCharacter a t n c).fullinClosed = s.fullinClosed := by
  simp only [State.readBackCharacter]; (repeat' split) <;> simp
@[simp] theorem State.readBackCharacter_phinInBand (a : Attempt) (t : Time) (n : Nat) (c : LineChar) : (s.readBackCharacter a t n c).phinInBand = s.phinInBand := by
  simp only [State.readBackCharacter]; (repeat' split) <;> simp
@[simp] theorem State.readBackCharacter_cl (a : Attempt) (t : Time) (n : Nat) (c : LineChar) : (s.readBackCharacter a t n c).cl = s.cl := by
  simp only [State.readBackCharacter]; (repeat' split) <;> simp
@[simp] theorem State.readBackCharacter_pt (a : Attempt) (t : Time) (n : Nat) (c : LineChar) : (s.readBackCharacter a t n c).pt = s.pt := by
  simp only [State.readBackCharacter]; (repeat' split) <;> simp
@[simp] theorem State.readBackCharacter_pa (a : Attempt) (t : Time) (n : Nat) (c : LineChar) : (s.readBackCharacter a t n c).pa = s.pa := by
  simp only [State.readBackCharacter]; (repeat' split) <;> simp
@[simp] theorem State.readBackCharacter_dc (a : Attempt) (t : Time) (n : Nat) (c : LineChar) : (s.readBackCharacter a t n c).dc = s.dc := by
  simp only [State.readBackCharacter]; (repeat' split) <;> simp
@[simp] theorem State.readBackCharacter_ol (a : Attempt) (t : Time) (n : Nat) (c : LineChar) : (s.readBackCharacter a t n c).ol = s.ol := by
  simp only [State.readBackCharacter]; (repeat' split) <;> simp
@[simp] theorem State.readBackCharacter_ch (a : Attempt) (t : Time) (n : Nat) (c : LineChar) : (s.readBackCharacter a t n c).ch = s.ch := by
  simp only [State.readBackCharacter]; (repeat' split) <;> simp
@[simp] theorem State.readBackCharacter_pending (a : Attempt) (t : Time) (n : Nat) (c : LineChar) : (s.readBackCharacter a t n c).pending = s.pending := by
  simp only [State.readBackCharacter]; (repeat' split) <;> simp

end Sys2Proof.Machine
end

