-- ==== Sys2Proof/Laws/Lists.lean ====
section
/-! SUPPORT. The peer table and the override list as lists: membership, order and lookup after each operation, and who can be a
victim. -/

namespace Sys2Proof.Machine

/-! ### The peer table -/

/-- What a successful lookup gives. -/
theorem findEntry_some {es : List Entry} {a : Byte} {e : Entry} (h : findEntry es a = some e) : e ∈ es ∧ e.addr = a :=
  ⟨List.mem_of_find?_eq_some h, by simpa using List.find?_some h⟩

/-- A lookup fails exactly where no entry has the address. -/
theorem findEntry_none {es : List Entry} {a : Byte} : findEntry es a = none ↔ ∀ e ∈ es, e.addr ≠ a := by
  simp [findEntry]

/-- The entries after an insertion. -/
theorem mem_insertEntry {e x : Entry} : ∀ {es : List Entry}, x ∈ insertEntry e es ↔ x = e ∨ x ∈ es
  | [] => by simp [insertEntry]
  | y :: rest => by
    unfold insertEntry; split
    · simp
    · simp [mem_insertEntry (es := rest)]; tauto

/-- An insertion adds one entry. -/
theorem length_insertEntry (e : Entry) : ∀ es : List Entry, (insertEntry e es).length = es.length + 1
  | [] => rfl
  | y :: rest => by unfold insertEntry; split <;> simp [length_insertEntry e rest]

/-- An insertion of a new address keeps the address order (R21). -/
theorem pairwise_insertEntry {e : Entry} : ∀ {es : List Entry}, es.Pairwise (fun x y => x.addr < y.addr) →
    (∀ x ∈ es, x.addr ≠ e.addr) → (insertEntry e es).Pairwise (fun x y => x.addr < y.addr)
  | [], _, _ => by simp [insertEntry]
  | y :: rest, h, hn => by
    unfold insertEntry
    rw [List.pairwise_cons] at h
    split
    · next hlt =>
      rw [List.pairwise_cons]
      refine ⟨fun x hx => ?_, List.pairwise_cons.2 h⟩
      rcases List.mem_cons.1 hx with rfl | hx
      · exact hlt
      · exact BitVec.lt_trans hlt (h.1 x hx)
    · next hlt =>
      rw [List.pairwise_cons]
      refine ⟨fun x hx => ?_, pairwise_insertEntry h.2 fun x hx => hn x (List.mem_cons_of_mem _ hx)⟩
      rcases mem_insertEntry.1 hx with rfl | hx
      · have := hn y (List.mem_cons_self ..)
        bv_omega
      · exact h.1 x hx

/-- Lookup, entry by entry. -/
theorem findEntry_cons (y : Entry) (rest : List Entry) (a : Byte) :
    findEntry (y :: rest) a = if y.addr = a then some y else findEntry rest a := by
  by_cases h : y.addr = a <;> simp [findEntry, h]

/-- Lookup after the insertion of a new address. -/
theorem findEntry_insertEntry {e : Entry} (a : Byte) : ∀ {es : List Entry}, findEntry es e.addr = none →
    findEntry (insertEntry e es) a = if e.addr = a then some e else findEntry es a
  | [], _ => by rw [insertEntry, findEntry_cons]
  | y :: rest, hn => by
    rw [findEntry_none] at hn
    have hy := hn y (List.mem_cons_self ..)
    have ih := findEntry_insertEntry (e := e) a (es := rest) (findEntry_none.2 fun x hx => hn x (List.mem_cons_of_mem _ hx))
    unfold insertEntry
    split
    · rw [findEntry_cons]
    · rw [findEntry_cons, findEntry_cons, ih]
      by_cases h : y.addr = a
      · have : ¬e.addr = a := fun h' => hy (h.trans h'.symm)
        simp [h, this]
      · simp [h]

/-- Lookup after a change of one entry, where the change keeps the address. -/
theorem findEntry_updateEntry {g : Entry → Entry} (hg : ∀ e, (g e).addr = e.addr) (a b : Byte) : ∀ es : List Entry,
    findEntry (updateEntry es a g) b = if a = b then (findEntry es b).map g else findEntry es b
  | [] => by simp [updateEntry, findEntry]
  | y :: rest => by
    have ih := findEntry_updateEntry hg a b rest
    have hu : updateEntry (y :: rest) a g = (if y.addr = a then g y else y) :: updateEntry rest a g := by
      simp [updateEntry]
    rw [hu, findEntry_cons, findEntry_cons, ih]
    by_cases ha : y.addr = a <;> by_cases hb : a = b <;> by_cases hc : y.addr = b <;> simp_all

/-- Lookup after a removal. -/
theorem findEntry_removeEntry (a b : Byte) : ∀ es : List Entry,
    findEntry (removeEntry es a) b = if a = b then none else findEntry es b
  | [] => by simp [removeEntry, findEntry]
  | y :: rest => by
    have ih := findEntry_removeEntry a b rest
    have hu : removeEntry (y :: rest) a = if y.addr = a then removeEntry rest a else y :: removeEntry rest a := by
      by_cases h : y.addr = a <;> simp [removeEntry, h]
    rw [hu]
    by_cases ha : y.addr = a
    · rw [if_pos ha, ih, findEntry_cons]
      by_cases hb : a = b
      · simp [hb]
      · simp [hb, ha]
    · rw [if_neg ha, findEntry_cons, findEntry_cons, ih]
      by_cases hb : a = b
      · subst hb; simp [ha]
      · simp [hb]

/-- The victim of R35 is one of the candidates. -/
theorem State.chooseVictim_mem (s : State) : ∀ {es : List Entry} {v : Entry}, s.chooseVictim es = some v → v ∈ es
  | [], v, h => by simp [State.chooseVictim] at h
  | e :: rest, v, h => by
    unfold State.chooseVictim at h
    split at h
    · simp at h; simp [h]
    · next w hw =>
      split at h <;> simp at h <;> subst h
      · exact List.mem_cons_of_mem _ (s.chooseVictim_mem hw)
      · simp

/-- Where there is a candidate there is a victim (R35). -/
theorem State.chooseVictim_none (s : State) : ∀ {es : List Entry}, s.chooseVictim es = none ↔ es = []
  | [] => by simp [State.chooseVictim]
  | e :: rest => by
    unfold State.chooseVictim
    split
    · simp
    · split <;> simp

/-- What applying a frame to an entry can do: the entry of the source changed, an entry made for it, or TABLE_FULL (R27, R34 to R36). -/
theorem State.applyToEntry_cases (s : State) (src : Byte) (g : Entry → Entry) :
    (∃ e, findEntry s.pt.entries src = some e ∧
      s.applyToEntry src g = { s with pt := { s.pt with entries := updateEntry s.pt.entries src g } }) ∨
    (∃ es, findEntry s.pt.entries src = none ∧ s.withRoomFor src = some es ∧
      s.applyToEntry src g = { s with pt := { s.pt with entries := updateEntry es src g } }) ∨
    (findEntry s.pt.entries src = none ∧ s.withRoomFor src = none ∧ s.applyToEntry src g = s.raiseIf true .tableFull) := by
  unfold State.applyToEntry
  split
  · next e he => exact .inl ⟨e, he, rfl⟩
  · next hn =>
    split
    · next es hes => exact .inr (.inl ⟨es, hn, hes, rfl⟩)
    · next hr => exact .inr (.inr ⟨hn, hr, rfl⟩)

/-- The neighbours that remain of a record: at most two, distinct, and each able to name a peer (R26, R172). -/
theorem usableNeighbours_ok (p : List Byte) :
    (usableNeighbours p).length ≤ 2 ∧ (usableNeighbours p).Nodup ∧ ∀ a ∈ usableNeighbours p, a ≠ 0 ∧ a ≠ 255 ∧ a ≠ byteAt p 0 := by
  have h1 : ((presentNeighbours p).filter (canNamePeer (byteAt p 0))).length ≤ 2 := by
    refine le_trans (List.length_filter_le _ _) ?_
    simp [presentNeighbours]; split <;> split <;> simp
  have h2 : ∀ a ∈ (presentNeighbours p).filter (canNamePeer (byteAt p 0)), a ≠ 0 ∧ a ≠ 255 ∧ a ≠ byteAt p 0 := by
    intro a ha; simp [canNamePeer] at ha; tauto
  unfold usableNeighbours
  generalize (presentNeighbours p).filter (canNamePeer (byteAt p 0)) = l at h1 h2 ⊢
  match l with
  | [] => simp [mergeEqual]
  | [x] => simpa [mergeEqual] using h2
  | [x, y] =>
    simp only [mergeEqual]; split
    · simp at h2 ⊢; tauto
    · simp at h2 ⊢; tauto
  | x :: y :: z :: r => simp at h1

/-! ### The override list -/

/-- The victim of R106 is one of the candidates. -/
theorem chooseOverrideVictim_mem : ∀ {es : List OverrideEntry} {v : OverrideEntry}, chooseOverrideVictim es = some v → v ∈ es
  | [], v, h => by simp [chooseOverrideVictim] at h
  | e :: rest, v, h => by
    unfold chooseOverrideVictim at h
    split at h
    · simp at h; simp [h]
    · next w hw =>
      split at h <;> simp at h <;> subst h
      · exact List.mem_cons_of_mem _ (chooseOverrideVictim_mem hw)
      · simp

/-- Where there is a candidate there is a victim (R106). -/
theorem chooseOverrideVictim_none : ∀ {es : List OverrideEntry}, chooseOverrideVictim es = none ↔ es = []
  | [] => by simp [chooseOverrideVictim]
  | e :: rest => by
    unfold chooseOverrideVictim
    split
    · simp
    · split <;> simp

/-- An entry made of an order lies within the limits of R101 and R103. -/
theorem overrideEntry_within (a : Byte) (k : OverrideKind) (f : OverrideFields) (now : Time) (hd : f.duration ≠ 0) :
    1 ≤ (overrideEntry a k f now).remaining ∧ (overrideEntry a k f now).remaining ≤ 3600 ∧
      ((k = .floor ∧ ∃ l ≤ 2000, (overrideEntry a k f now).floorLevel = some l) ∨
        (k ≠ .floor ∧ (overrideEntry a k f now).floorLevel = none)) := by
  refine ⟨by simp [overrideEntry]; omega, by simp [overrideEntry], ?_⟩
  by_cases hk : k = .floor <;> simp [overrideEntry, hk]

/-- The entries after an admission: those kept, and the new one at the end (R105, R106). -/
@[simp] theorem State.admitOverride_entries (s : State) (kept : List OverrideEntry) (e : OverrideEntry) :
    (s.admitOverride kept e).ol.entries = kept ++ [e] := by
  simp only [State.admitOverride]; split <;> simp

end Sys2Proof.Machine
end

