-- ==== Sys2Proof/Laws/Ops.lean ====
section
/-! SUPPORT. The shared operations of channels and transmit slots, each said once: what reading after an update gives, what filling a
slot does to the line controller, what a computation of the commands gives, and when a part is FRESH or LOST. -/

namespace Sys2Proof.Machine

/-! ### Station states -/

/-- The line controller works in every station state but CONFIGURING. -/
theorem StationState.onLine_iff (st : StationState) : st.onLine = true ↔ st ≠ .configuring := by
  cases st <;> simp [StationState.onLine]

/-- LISTENING and RUNNING are the states that regulate. -/
theorem StationState.regulates_iff (st : StationState) : st.regulates = true ↔ st = .listening ∨ st = .running := by
  cases st <;> simp [StationState.regulates]

/-- A station that regulates is on the line. -/
theorem StationState.ne_configuring_of_regulates {st : StationState} (h : st.regulates = true) : st ≠ .configuring := by
  rintro rfl; cases h

/-! ### Values in force -/

/-- The values in force, in every state. -/
theorem State.valuesInForce (s : State) : s.ValuesInForce := by
  refine ⟨fun r hs hr => ?_, fun hs => ?_, fun r hr => ?_, fun v hr hv => ?_⟩
  · have hc : s.cfg = r := by simp [State.cfg, hr]
    rcases hs with hs | hs <;>
      simp only [State.channelCount, State.protection, State.retrySeconds, State.filterCounts, hs, hc, true_and] <;>
      cases r.filter <;> rfl
  · simp only [State.channelCount, State.protection, State.retrySeconds, State.filterCounts, hs, true_and]; rfl
  · simp [State.yieldE, State.reportPeriod, hr]
  · simp [State.yieldE, State.reportPeriod, hr, hv]

/-! ### Slots -/

/-- Reading a slot after one has been replaced. -/
theorem Slots.get_set (t : Slots) (j k : SlotId) (x : Slot) : (t.set k x).get j = if j = k then x else t.get j := by
  cases k <;> cases j <;> rfl

@[simp] theorem Slots.get_set_self (t : Slots) (k : SlotId) (x : Slot) : (t.set k x).get k = x := by simp [Slots.get_set]

@[simp] theorem Slots.get_set_ne (t : Slots) {j k : SlotId} (x : Slot) (h : j ≠ k) : (t.set k x).get j = t.get j := by
  simp [Slots.get_set, h]

/-- Some slot is occupied whenever one of them is. -/
theorem Slots.firstOccupied_isSome {t : Slots} {k : SlotId} {c : Content} (h : (t.get k).content = some c) :
    ∃ j d, t.firstOccupied = some (j, d) := by
  have : t.firstOccupied ≠ none := by
    intro hn
    simp only [Slots.firstOccupied, List.findSome?_eq_none_iff, slotOrder] at hn
    have := hn k (by cases k <;> simp)
    simp [h] at this
  obtain ⟨⟨j, d⟩, h⟩ := Option.ne_none_iff_exists'.1 this
  exact ⟨j, d, h⟩

/-- An attempt starts only where none runs and a slot is occupied; otherwise the line controller is as it was (R158). -/
theorem LineControl.startAttempt_cases (lc : LineControl) (p : LineParams) (now : Time) :
    (∃ k c, lc.attempt = none ∧ lc.slots.firstOccupied = some (k, c) ∧
      lc.startAttempt p now =
        { lc with attempt := some { slot := k, content := c, refilled := false,
                                    phase := .waiting (now + accessWait p (lc.slots.get k).attempts) } }) ∨
    ((lc.attempt ≠ none ∨ lc.slots.firstOccupied = none) ∧ lc.startAttempt p now = lc) := by
  unfold LineControl.startAttempt
  split
  · next k c h1 h2 => exact .inl ⟨k, c, h1, h2, rfl⟩
  · next hn =>
    refine .inr ⟨?_, rfl⟩
    by_contra hc
    obtain ⟨h1, h2⟩ := not_or.1 hc
    obtain ⟨⟨k, c⟩, h2⟩ := Option.ne_none_iff_exists'.1 h2
    exact hn k c (not_not.1 h1) h2

/-- Filling a slot, said once (R157, R158). -/
theorem LineControl.fill_slotFilled (lc : LineControl) (k : SlotId) (c : Content) (p : LineParams) (now : Time) :
    SlotFilled lc (lc.fill k c p now) p now k c := by
  have hslots : (lc.fill k c p now).slots = lc.slots.set k ((lc.slots.get k).filled c) := by
    unfold LineControl.fill; split
    · rcases LineControl.startAttempt_cases
        { lc with slots := lc.slots.set k ((lc.slots.get k).filled c), attempt := lc.attempt.map fun a => a.noteFilling k } p now
        with ⟨_, _, _, _, h⟩ | ⟨_, h⟩ <;> simp only [h]
    · rfl
  refine ⟨by rw [hslots]; simp [Slot.filled], ?_, ?_, ?_, ?_, ?_, ?_⟩
  · rw [hslots]; simp only [Slots.get_set_self, Slot.filled]
    cases (lc.slots.get k).content <;> simp
  · intro j hj; rw [hslots]; simp [hj]
  · intro a ha
    simp only [LineControl.fill, ha, Option.map_some]
    split
    · simp [LineControl.startAttempt, Attempt.noteFilling]
    · rfl
  · intro ha hi; simp [LineControl.fill, ha, hi]
  · intro ha hi
    rw [hslots]
    obtain ⟨j, d, hf⟩ := Slots.firstOccupied_isSome (t := lc.slots.set k ((lc.slots.get k).filled c)) (k := k) (c := c)
      (by simp [Slot.filled])
    refine ⟨j, d, hf, ?_⟩
    simp [LineControl.fill, ha, hi, LineControl.startAttempt, hf, accessWait]
  · unfold LineControl.fill; split
    · rcases LineControl.startAttempt_cases
        { lc with slots := lc.slots.set k ((lc.slots.get k).filled c), attempt := lc.attempt.map fun a => a.noteFilling k } p now
        with ⟨_, _, _, _, h⟩ | ⟨_, h⟩ <;> simp only [h]
    · rfl

/-- Filling a slot leaves what no rule of the filling names. -/
@[simp] theorem LineControl.fill_params (lc : LineControl) (k : SlotId) (c : Content) (p : LineParams) (now : Time) :
    (lc.fill k c p now).params = lc.params := by
  rw [(lc.fill_slotFilled k c p now).2.2.2.2.2.2]

/-! ### Channels -/

/-- Reading a channel after one has been replaced. -/
theorem ChannelBlock.get_set (b : ChannelBlock) (j k : ChannelId) (c : Channel) :
    (b.set k c).get j = if j = k then c else b.get j := by
  cases k <;> cases j <;> rfl

@[simp] theorem ChannelBlock.get_set_self (b : ChannelBlock) (k : ChannelId) (c : Channel) : (b.set k c).get k = c := by
  simp [ChannelBlock.get_set]

@[simp] theorem ChannelBlock.get_set_ne (b : ChannelBlock) {j k : ChannelId} (c : Channel) (h : j ≠ k) :
    (b.set k c).get j = b.get j := by
  simp [ChannelBlock.get_set, h]

@[simp] theorem ChannelBlock.held_set (b : ChannelBlock) (k : ChannelId) (c : Channel) : (b.set k c).held = b.held := by
  cases k <;> rfl

@[simp] theorem ChannelBlock.pwmTimer_set (b : ChannelBlock) (k : ChannelId) (c : Channel) : (b.set k c).pwmTimer = b.pwmTimer := by
  cases k <;> rfl

@[simp] theorem ChannelBlock.get_map (b : ChannelBlock) (g : ChannelId → Channel → Channel) (k : ChannelId) :
    (b.map g).get k = g k (b.get k) := by
  cases k <;> rfl

/-- What a computation of R123 does to a channel: its command and its open timer, from the held level and the present health. -/
@[simp] theorem ChannelBlock.get_computed (b : ChannelBlock) (st : StationState) (n : Nat) (now : Time) (k : ChannelId) :
    (b.computed st n now).get k = (b.get k).recomputed st.regulates now n (b.healthyCount n) (b.held.getD 0) := by
  cases k <;> rfl

@[simp] theorem ChannelBlock.held_computed (b : ChannelBlock) (st : StationState) (n : Nat) (now : Time) :
    (b.computed st n now).held = b.held := rfl

@[simp] theorem ChannelBlock.pwmTimer_computed (b : ChannelBlock) (st : StationState) (n : Nat) (now : Time) :
    (b.computed st n now).pwmTimer = b.pwmTimer := rfl

/-- Channels below the configured count start to drive with nothing remembered; the others stay (R119). -/
theorem ChannelBlock.get_energised (b : ChannelBlock) (n : Nat) (k : ChannelId) :
    (b.energised n).get k = if channelNumber k < n then { Channel.atReset with state := .driving } else b.get k := by
  simp [ChannelBlock.energised]

/-- A command never exceeds full output when the held level does not (R121). -/
theorem driveCommand_le (n h level : Nat) (hl : level ≤ 10000) : driveCommand n h level ≤ 10000 := by
  unfold driveCommand fullLevel; split <;> omega

/-- The delivered counts never exceed the held level (R122). -/
theorem deliveredCounts_le (n h level : Nat) : deliveredCounts n h level ≤ level := by
  unfold deliveredCounts; split
  · omega
  · exact Nat.min_le_left _ _

/-- Every channel is one of the four. -/
theorem mem_allChannels (k : ChannelId) : k ∈ allChannels := by cases k <;> simp [allChannels]

/-- Health is not touched by a computation. -/
theorem ChannelBlock.healthyCount_computed (b : ChannelBlock) (st : StationState) (n m : Nat) (now : Time) :
    (b.computed st n now).healthyCount m = b.healthyCount m := by
  simp [ChannelBlock.healthyCount, Channel.healthy, Channel.recomputed]

theorem FaultRecord.raiseChannels_isSet (fr : FaultRecord) (b : ChannelBlock) :
    (b.capacityPart = true → (fr.raiseChannels b).isSet .capacity = true) ∧
      (b.latchedCondition = true → (fr.raiseChannels b).isSet .overcurrentLatched = true) ∧
      (b.openCondition = true → (fr.raiseChannels b).isSet .openLoad = true) := by
  refine ⟨fun h => ?_, fun h => ?_, fun h => ?_⟩ <;>
    simp [FaultRecord.raiseChannels, FaultRecord.raiseIf, FaultRecord.isSet, FaultRecord.withFlags, h] <;>
    (repeat' split) <;> simp [Flag.position, Flag.bit]

/-- What a computation gives, said once: the tables of R121 to R124, R131 to R133 from the held level and the present health. -/
theorem State.computeCommands_channelsComputed (s : State) :
    s.computeCommands.ChannelsComputed fun k => (s.ch.get k).openTimer := by
  have hc : s.computeCommands.channelCount = s.channelCount := rfl
  have hl : (s.ch.computed s.le.station s.channelCount s.now).held = s.ch.held := rfl
  unfold State.ChannelsComputed
  simp only [hc, State.computeCommands_ch, ChannelBlock.healthyCount_computed, hl, ChannelBlock.get_computed,
    State.computeCommands_le, State.computeCommands_now, State.computeCommands_fr]
  have hs := FaultRecord.raiseChannels_isSet s.fr (s.ch.computed s.le.station s.channelCount s.now)
  refine ⟨fun k => ?_, fun k => ?_, ?_, ?_, ?_, ?_, hs.1, hs.2.1, hs.2.2⟩
  · cases h : (s.ch.get k).state <;> simp [Channel.recomputed, Channel.commandFor, h, driveCommand, fullLevel]
    by_cases h0 : s.ch.healthyCount s.channelCount = 0 <;> simp [h0, Nat.one_le_iff_ne_zero]
  · cases h : (s.ch.get k).state <;> cases hm : (s.ch.get k).openMark <;> cases hr : s.le.station.regulates <;>
      simp [Channel.recomputed, Channel.settledOpenTimer, Channel.healthy, openLoadCommand, openTime, sec, h, hm]
    by_cases hx : 1000 ≤ (s.ch.get k).commandFor s.channelCount (s.ch.healthyCount s.channelCount) (s.ch.held.getD 0) <;>
      cases ho : (s.ch.get k).openTimer <;> simp [hx]
  · simp only [ChannelBlock.computed, deliveredCounts, driveCommand, fullLevel]
    split
    · rfl
    · next hn => rw [if_pos (by omega)]
  · have : s.le.station.onLine = true ↔ s.le.station ≠ .configuring := by cases s.le.station <;> simp [StationState.onLine]
    simp [ChannelBlock.computed, ← this, and_assoc]
  · simp only [ChannelBlock.computed, ChannelBlock.anyLatched, List.any_eq_true, beq_iff_eq, Channel.recomputed]
    exact ⟨fun ⟨k, _, h⟩ => ⟨k, h⟩, fun ⟨k, h⟩ => ⟨k, mem_allChannels k, h⟩⟩
  · simp only [ChannelBlock.computed, ChannelBlock.anyOpen, List.any_eq_true, Channel.recomputed]
    exact ⟨fun ⟨k, _, h⟩ => ⟨k, h⟩, fun ⟨k, h⟩ => ⟨k, mem_allChannels k, h⟩⟩

/-- A computation leaves everything of the channels alone but their commands and open timers. -/
theorem State.computeCommands_onlyRecomputed (s : State) : s.computeCommands.OnlyRecomputed s :=
  ⟨fun k => by simp [Channel.recomputed], rfl⟩

/-- Raising a flag where `b` holds raises that flag alone. -/
theorem State.raiseIf_raisesOnly (s : State) (b : Bool) (f : Flag) : (s.raiseIf b f).RaisesOnly s [f] := by
  refine ⟨by simp [FaultRecord.raiseIf_mask], fun g => ?_⟩
  simp only [State.raiseIf_fr, FaultRecord.isSet_raiseIf, List.mem_singleton]
  refine ⟨fun h => by simp [h], fun h => ?_⟩
  simp [Ne.symm h]

/-- A computation raises only the flags of the channel block. -/
theorem State.computeCommands_raisesOnly (s : State) : s.computeCommands.RaisesOnly s channelFlags := by
  refine ⟨by simp [FaultRecord.raiseChannels, FaultRecord.raiseIf_mask], fun g => ?_⟩
  simp only [State.computeCommands_fr, FaultRecord.raiseChannels, FaultRecord.isSet_raiseIf, channelFlags, List.mem_cons,
    List.not_mem_nil, or_false, not_or]
  refine ⟨fun h => by simp [h], fun ⟨h1, h2, h3⟩ => ?_⟩
  simp [Ne.symm h1, Ne.symm h2, Ne.symm h3]

/-! ### Freshness -/

/-- A limit is reached beyond it, and at it once its event has been taken. -/
theorem reached_iff (age limit : Time) (taken : Bool) :
    reached age limit taken = true ↔ limit < age ∨ age = limit ∧ taken = true := by
  simp [reached]

/-- A part is FRESH below the stale time, and at it while PART_STALE has not been taken (R32, log 29). -/
theorem freshnessOf_eq_fresh_iff (stale lost : Nat) (age : Time) (aged : Freshness) :
    freshnessOf stale lost age aged = .fresh ↔ age < ms stale ∨ age = ms stale ∧ aged = .fresh := by
  unfold freshnessOf reached
  generalize ms stale = x; generalize ms lost = y
  simp only [Time] at *
  cases aged <;> simp <;> (repeat' split) <;> simp <;> omega

/-- A part is LOST beyond the lost time, and at it once PART_LOST has been taken (R32, log 29). -/
theorem freshnessOf_eq_lost_iff {stale lost : Nat} (hl : stale < lost) (age : Time) (aged : Freshness) :
    freshnessOf stale lost age aged = .lost ↔ ms lost < age ∨ age = ms lost ∧ aged = .lost := by
  have hm : ms stale < ms lost := Nat.mul_lt_mul_of_pos_right hl (by decide)
  unfold freshnessOf reached
  generalize ms stale = x at *; generalize ms lost = y at *
  simp only [Time] at *
  cases aged <;> simp <;> (repeat' split) <;> simp <;> omega

/-- Once LOST a part stays LOST, and no event leaves it as it is. -/
@[simp] theorem Freshness.later_lost (f : Freshness) : f.later .lost = .lost := by cases f <;> rfl
@[simp] theorem Freshness.later_fresh (f : Freshness) : f.later .fresh = f := by cases f <;> rfl

/-! ### The level engine's arithmetic -/

/-- One step of the slew ends between where it started and its target (R84). -/
theorem slew_between (rise fall level target : Nat) :
    min level target ≤ slew rise fall level target ∧ slew rise fall level target ≤ max level target := by
  unfold slew; repeat' split
  all_goals omega

/-- One step of the slew moves by at most the rise limit up and the fall limit down (R84). -/
theorem slew_within (rise fall level target : Nat) :
    level ≤ slew rise fall level target + fall ∧ slew rise fall level target ≤ level + rise := by
  unfold slew; repeat' split
  all_goals omega

/-- The required level is at most full output (R76). -/
theorem requiredLevel_le (target yield : Nat) : requiredLevel target yield ≤ 10000 := by
  simp [requiredLevel, fullLevel]

/-- The end of a level update leaves the station, the level and the target alone. -/
theorem State.report_le (s : State) (y : Nat) :
    (s.report y).le.level = s.le.level ∧ (s.report y).le.target = s.le.target ∧ (s.report y).le.station = s.le.station := by
  simp only [State.report]; split <;> exact ⟨rfl, rfl, rfl⟩

/-- The end of a sending leaves the station, the level and the target alone. -/
theorem State.finishSending_le (s : State) (a : Attempt) :
    (s.finishSending a).le.level = s.le.level ∧ (s.finishSending a).le.target = s.le.target ∧
      (s.finishSending a).le.station = s.le.station := by
  simp only [State.finishSending, State.noteSent]; split <;> exact ⟨rfl, rfl, rfl⟩

end Sys2Proof.Machine
end

