-- ==== Sys2Proof/Tests/Slice0.lean ====
section
/-! SUPPORT. Tests: the checks of WellFormed refuse, the worked examples of spec/ come out as written there, and for every statement with
hypotheses a concrete state and operands that meet them. -/

namespace Sys2Proof.Tests

open Sys2Proof Sys2Proof.Machine

/-! ### WellFormed refuses (one term per check) -/

theorem test_wellFormed_refuses_short_image : (Instr.configReadComplete (List.replicate 95 0)).wellFormed = false := by decide
theorem test_wellFormed_refuses_long_image : (Instr.configReadComplete (List.replicate 97 0)).wellFormed = false := by decide
theorem test_wellFormed_refuses_entry_0 : (Instr.entryLost 0).wellFormed = false := by decide
theorem test_wellFormed_refuses_part_255 : (Instr.partStale 255 .levelPart).wellFormed = false := by decide
theorem test_wellFormed_refuses_lost_part_0 : (Instr.partLost 0 .portalPart).wellFormed = false := by decide
theorem test_wellFormed_refuses_source_255 : (Instr.overrideSecondTimerExpiry 255 .hold).wellFormed = false := by decide

/-- A frame of kind `k` with 49 payload bytes. -/
def overlong : Frame := { dest := 255, src := 9, tag := 0, payload := List.replicate 49 0, crc := 0 }

theorem test_wellFormed_refuses_49_bytes :
    ([Instr.levelFrame overlong, .portalFrame overlong, .identFrame overlong, .overrideFrame overlong, .trimFrame overlong,
      .clearFrame overlong, .identReqFrame overlong, .resetFrame overlong].any Instr.wellFormed) = false := by decide
theorem test_wellFormed_takes_limits :
    (Instr.configReadComplete (List.replicate 96 0)).wellFormed = true ∧ (Instr.entryLost 254).wellFormed = true ∧
      (Instr.identFrame { overlong with payload := List.replicate 48 0 }).wellFormed = true := by decide

/-- No row of the table gives bits, so no word spells a command. -/
theorem test_no_word_spells_a_command : decodeTableWord 8 0 = none ∧ decodeTableWord 16 0xFFFF = none := by decide

/-! ### Small states -/

/-- The profile of 04 section 4.1 (R62). -/
def profile : List Breakpoint := [⟨0, 1000⟩, ⟨60, 1000⟩, ⟨120, 500⟩, ⟨200, 250⟩, ⟨300, 120⟩, ⟨500, 40⟩]

/-- The record of station 14 of 04 section 4.10, with the defaults of 11 section 11.1. -/
def record14 : Record :=
  { Record.placeholder with
    address := 14, channelCount := 4, yield := 400, distanceA := 95, distanceB := some 1405, neighbours := [13, 15],
    profile := profile }

/-- Ten seconds after the reset. -/
def t0 : Time := 200000000

/-- Station 14 in RUNNING at 5000 counts, four channels DRIVING, 1000 counts into a PWM period. -/
def running : State :=
  let driving : Channel :=
    { Channel.atReset with state := .driving, command := 5000, applied := 5000, openTimer := some (t0 + 1000),
                           pulseStart := t0 - 1000 }
  { State.reset with
    now := t0,
    cl := { State.reset.cl with readDue := none, record := some record14 },
    pt := { entries := [newEntry 13 true t0, newEntry 15 true t0], neighbourLost := false },
    dc := { State.reset.dc with ratioA := some 709, ratioB := some 40 },
    le := { State.reset.le with station := .running, level := 5000, target := 5000, updateTimer := some (t0 + 10), firstUpdate := false },
    ch := { State.reset.ch with c0 := driving, c1 := driving, c2 := driving, c3 := driving, held := some 5000, delivered := 5000,
                                pwmTimer := some (t0 - 1000 + 10000) },
    lc := { State.reset.lc with params := some { address := 14, mask := 0xFF, rate := .low } } }

/-- The same station in LISTENING. -/
def listening : State := { running with le := { running.le with station := .listening, listeningTimer := some (t0 + 10) } }

/-- The same station in FALLBACK. -/
def fallback : State :=
  { running with
    cl := { running.cl with record := none, fallback := some { reportPeriod := 500, yield := 10 } },
    pt := PeerTable.atReset, le := { running.le with station := .fallback } }

/-- Station 14 as a photometer station of side A, its timers running. -/
def meter : State :=
  { running with
    cl := { running.cl with record := some { record14 with side := some .a } },
    pfe := { running.pfe with sampleTimer := some t0, reportTimer := some t0, placedAt := 0 } }

/-- The meter with SENSOR_FAULT present and the recovery timer running. -/
def faulty : State := { meter with pfe := { meter.pfe with sensorFault := true, recoveryTimer := some t0 }, phinInBand := false }

/-- A valid frame of kind `k` from `src` to `dest`, tag 3. -/
def sent (k : FrameKind) (dest src : Byte) (payload : List Byte) : Frame := sealedFrame k dest src 3 payload

/-- One field of the next state, if there is one. -/
def after {α : Type} (r : Result) (g : State → α) : Option α :=
  match r with
  | .next t => some (g t)
  | .fault _ => none
  | .refused _ => none

/-- A record in four pieces with its CRC. -/
def imageOf (head : List Byte) (crc : Word16) : List Byte :=
  head ++ [0, 0, 3, 232, 0, 60, 3, 232, 0, 120, 1, 244, 0, 200, 0, 250, 1, 44, 0, 120, 1, 244, 0, 40] ++ List.replicate 24 0 ++
    [60, 3, 232, 30, 5, 31, 64, 0, 60, 7, 208, 39, 16, 1, 244, 0, 250, 7, 208, 0, 50, 2, 2, 5, 31, 255, 255, 0, 0] ++ be16 crc.toNat

/-- The record of station 14 as the memory holds it; the CRC was computed outside the model. -/
def image14 : List Byte := imageOf [14, 255, 0, 0, 62, 128, 4, 1, 144, 0, 95, 5, 125, 15, 13, 15, 6] 0x12FF

/-- The same record with side A, a full-scale constant of 1999 (below its range) and two channels. -/
def imageMeter : List Byte := imageOf [14, 255, 0, 1, 7, 207, 2, 1, 144, 0, 95, 5, 125, 15, 13, 15, 6] 0xFCDD

/-- The CRC of a record piece by piece. -/
theorem crc_in_parts {a b c d : List Byte} {x y z w : Word16} (ha : a.foldl crcByte 0xFFFF#16 = x) (hb : b.foldl crcByte x = y)
    (hc : c.foldl crcByte y = z) (hd : d.foldl crcByte z = w) : crc16 (a ++ b ++ c ++ d) = w := by
  simp only [crc16, List.foldl_append, ha, hb, hc, hd]

theorem test_crc_of_image14 : crc16 (image14.take 94) = 0x12FF :=
  crc_in_parts (a := image14.take 17) (b := (image14.drop 17).take 24) (c := (image14.drop 41).take 24) (d := (image14.drop 65).take 29)
    (x := 0x842B) (y := 0xA392) (z := 0x9288)
    (by decide +kernel) (by decide +kernel) (by decide +kernel) (by decide +kernel)

theorem test_crc_of_imageMeter : crc16 (imageMeter.take 94) = 0xFCDD :=
  crc_in_parts (a := imageMeter.take 17) (b := (imageMeter.drop 17).take 24) (c := (imageMeter.drop 41).take 24)
    (d := (imageMeter.drop 65).take 29) (x := 0xB5F8) (y := 0x9946) (z := 0x7270)
    (by decide +kernel) (by decide +kernel) (by decide +kernel) (by decide +kernel)

/-! ### The worked examples of spec/ -/

/-- "The CRC of the nine bytes of the ASCII digits 1 to 9 is 0x29B1." (R151) -/
theorem test_crc_check_value : crc16 [0x31, 0x32, 0x33, 0x34, 0x35, 0x36, 0x37, 0x38, 0x39] = 0x29B1 := by decide +kernel

/-- 01 sections 1.2 and 1.9. -/
theorem test_conversions : convert 3000 16000 .g2 = 5859 ∧ convert 599 16000 .g2 = 1170 ∧ convert 1198 16000 .g4 = 1170 ∧
    convert 1199 16000 .g4 = 1171 := by decide

/-- The tables of R62 and R64. -/
theorem test_station_ratios : [0, 30, 95, 120, 150, 250, 310, 500, 1405].map (stationRatio profile) =
    [1000, 1000, 709, 500, 407, 185, 116, 40, 40] := by decide
theorem test_portal_demands : [1000, 709, 407, 185, 116, 40].map (portalDemand 352) = [352, 250, 144, 66, 41, 15] := by decide

/-- 03 section 3.8 and R57, R67, 04 section 4.10. -/
theorem test_thresholds : threshold 6120 60 1000 = 367 ∧ threshold 5590 60 1000 = 335 ∧ threshold 5860 60 1100 = 387 ∧
    threshold 5860 60 1200 = 422 := by decide
theorem test_neighbour_floors : [15, 30, 50].map (neighbourFloorOf 352) = [235, 118, 71] ∧ neighbourFloorOf 180 30 = 60 := by decide
theorem test_required_levels : requiredLevel 250 400 = 6250 ∧ requiredLevel 22 200 = 1100 ∧ requiredLevel 200 150 = 10000 ∧
    requiredLevel 40 150 = 2667 := by decide

/-- The table of R122. -/
theorem test_compensation :
    [(4, 4, 6250), (4, 3, 6250), (4, 2, 4000), (3, 2, 5000), (4, 3, 10000), (4, 1, 2600), (2, 1, 5001)].map
        (fun x => (driveCommand x.1 x.2.1 x.2.2, deliveredCounts x.1 x.2.1 x.2.2)) =
      [(6250, 6250), (8334, 6250), (8000, 4000), (7500, 5000), (10000, 7500), (10000, 2500), (10000, 5000)] ∧
    deliveredCounts 4 0 6250 = 0 := by decide

/-- The level update of 04 section 4.10: portal A at 5860, neighbour 13 delivering 352. -/
def update14 : State :=
  let portal (a : Byte) (l : Nat) : Entry :=
    { newEntry a false t0 with
        side := some .a,
        portal := some { side := .a, luminance := l, sensorFault := false, restart := false, tag := 0, takenAt := t0, aged := .fresh } }
  let level (a : Byte) (l : Nat) : Entry :=
    { newEntry a true t0 with level := some { delivered := l, restart := false, tag := 0, takenAt := t0, aged := .fresh } }
  { running with pt := { running.pt with entries := [portal 2 5860, portal 3 6120, portal 5 5590, level 13 352, level 15 180] } }

theorem test_update_of_station_14 :
    after (exec .levelUpdate update14) (fun t => (t.dc.target, t.dc.required, t.dc.term, t.le.level, t.le.delivered)) =
      some (some 250, some 6250, some .portalA, 6250, 250) := by decide +kernel

/-- A low count at gain 2: the median holds, the gain doubles, the window empties (01 section 1.9, 1100 ms). -/
theorem test_sample_steps_up :
    (let x (l : Nat) : Sample := { luminance := l, saturated := false, gain := .g2 }
     after (exec (.sampleInstant 599) { meter with pfe := { meter.pfe with
        gain := .g2, window := [x 5859, x 5871, x 5840], reading := some 5859, lastReported := 5859 } })
      fun t => (t.pfe.reading, t.pfe.gain, t.pfe.window, t.pfe.tag)) = some (some 5840, .g4, [], 0) := by decide +kernel

/-- The LEVEL frame of 10 section 10.5 character by character; its CRC was computed outside the model. -/
theorem test_level_frame_bytes :
    frameBytes 255 14 FrameKind.level.code 39
        (writeLevel { delivered := 250, target := 250, level := 6250, station := .running, suspended := false, restart := false,
                      term := some .portalA, configured := 4, healthy := 3, flags := 1 }) =
      [0xFF, 0x0E, 0x01, 0x27, 0x0B, 0x00, 0xFA, 0x00, 0xFA, 0x18, 0x6A, 0x02, 0x01, 0x43, 0x00, 0x01, 0xE9, 0xED] := by decide +kernel

/-- The IDENT chain of 10 section 10.5: 29 bytes, channel states byte 0x75. -/
theorem test_ident_chain_of_station_14 :
    (let s : State := { running with ch := { running.ch with c2 := { running.ch.c2 with state := .latched } } }
     s.identChain) =
      [1, 5, 1, 0, 14, 0xFF, 2, 3, 6, 4, 0x01, 0x90, 0x75, 0x00, 2, 4, 4, 0, 95, 5, 0x7D, 5, 6, 0, 0, 0, 0, 0, 0] := by decide +kernel

/-- The record of station 14 is good, and its values are read from the places of 11 section 11.1. -/
theorem test_image14_good : structuralFailure image14 = false := by
  have h : recordCrcGood image14 = true := by rw [recordCrcGood, test_crc_of_image14]; decide +kernel
  simp only [structuralFailure, h]; decide +kernel
theorem test_imageMeter_good : structuralFailure imageMeter = false := by
  have h : recordCrcGood imageMeter = true := by rw [recordCrcGood, test_crc_of_imageMeter]; decide +kernel
  simp only [structuralFailure, h]; decide +kernel
theorem test_record_of_station_14 : needsCorrection image14 = false ∧ correctedRecord image14 = record14 := by decide +kernel

/-- The full list of 12 section 12.4 at 3.0 s: the FLOOR of 240 displaces the HOLD of 250. -/
theorem test_displacement :
    (let e (a : Byte) (k : OverrideKind) (l : Option Nat) (n : Nat) : OverrideEntry :=
       { source := a, kind := k, floorLevel := l, remaining := n, secondDue := t0 + 1 }
     after (exec (.overrideFrame (sent .override 14 240 (writeOverride .floor 400 60)))
        { listening with ol := { listening.ol with
            entries := [e 250 .floor (some 300) 118, e 250 .hold none 29, e 19 .full none 10, e 21 .full none 10] } })
      fun t => t.ol.entries.map fun x => (x.source, x.kind)) =
      some [(250, .floor), (19, .full), (21, .full), (240, .floor)] := by decide +kernel

/-- The first victim of 02 section 2.12: 33, tied with 7 on age, has no photometer side. -/
theorem test_victim_without_side :
    (let lost (a : Byte) (side : Option Side) (heard : Time) : Entry :=
       { newEntry a false heard with
           side := side,
           level := some { delivered := 0, restart := false, tag := 0, takenAt := 0, aged := .lost } }
     ({ running with now := 300000000 } : State).chooseVictim [lost 7 (some .a) 16000000, lost 25 none 60000000, lost 33 none 16000000]).map
      Entry.addr = some 33 := by decide +kernel

/-- 12 section 12.3 at 0.2 s: with two channels left, 7500 counts come out as 5000 and CAPACITY is set. -/
theorem test_second_trip_raises_capacity :
    (let s : State := { running with ch := { running.ch with
        held := some 7500,
        c1 := { running.ch.c1 with state := .retryWait, command := 0, openTimer := none } } }
     after (exec (.overcurrentTrip .ch3) s) fun t => (t.ch.delivered, t.ch.c0.command, t.fr.isSet .capacity)) =
      some (5000, 10000, true) := by decide +kernel

/-- R50: the portal part of 3 reaches the stale time at the instant of the update. Taken after the update it is a candidate there;
taken before, it is passed over. -/
theorem test_ageing_and_update_at_one_instant :
    (let s : State := { update14 with le := { update14.le with updateTimer := some (t0 + 40000000) } }
     after (exec .levelUpdate s) (fun t => t.pa.a.luminance) = some (some 5860) ∧
       after (execAll [.partStale 3 .portalPart, .levelUpdate] s) (fun t => t.pa.a.luminance) = some (some 5860) ∧
       after (execAll [.partStale 2 .portalPart, .partStale 3 .portalPart, .levelUpdate] s) (fun t => t.pa.a.luminance) =
         some (some 5590)) := by decide +kernel

/-- R125: at 1000 counts the gate drive goes low 50 µs into the period, and a trip 60 µs into it is ignored. -/
theorem test_trip_with_gate_low_ignored :
    (let s : State := { running with
        now := t0 + 200, ch := { running.ch with c0 := { running.ch.c0 with applied := 1000 } } }
     s.gateDrive .ch0 = false ∧ after (exec (.overcurrentTrip .ch0) s) (fun t => decide (t = s)) = some true) := by decide +kernel

/-- R149: the first character of a frame to 0x55 at 38,400 bit/s, bit by bit: start 0, 1 0 1 0 1 0 1 0, mark 1, stop 1. -/
theorem test_first_character_on_ztx :
    (let c : Content := { dest := 0x55, kind := .level, tag := 0, payload := [] }
     (List.range 11).map fun i => c.levelAt { address := 14, mask := 0, rate := .low } (i * 5730 / 11 + 100)) =
      [false, true, false, true, false, true, false, true, false, true, true] := by decide +kernel

/-- R170: the read command and the address 0x0000 on SDO in the first 24 µs of the read. -/
theorem test_read_command_on_sdo :
    ([0, 159, 160, 320, 479, 480].map fun d => ({ State.reset with now := d } : State).sdoByte) =
      [some 3, some 3, some 0, some 0, some 0, none] := by decide

/-! ### A state and operands that meet the hypotheses of each statement -/

theorem witness_StepTakesQueueInOrder :
    ({ running with pending := [.lineIdle, .powerLoss] } : State).pending = [.lineIdle, .powerLoss] ∧ running.pending = [] := by
  decide

theorem witness_PowerUpTakesPowerOnReset :
    running.rstnLow = false ∧ ({ running with rstnLow := true } : State).rstnLow = true ∧ running.powered = true ∧
      running.cl.readDue = none ∧ State.reset.powered = true ∧ State.reset.cl.readDue = some 15840 ∧
      15840 + 160 * 0 ≤ State.reset.now + 15840 ∧ State.reset.now + 15840 < 15840 + 160 * (0 + 1) ∧
      15840 + 480 ≤ ({ State.reset with now := 480 } : State).now + 15840 := by decide

theorem witness_RstnHoldsAndReleases :
    (let s : State := { running with rstnLow := true }
     s.powered = true ∧ s.rstnLow = true) ∧ running.rstnLow = false ∧
      (let s : State := { running with powered := false, rstnLow := true }
       s.powered = false ∧ s.rstnLow = true) := by decide

theorem witness_ResetFrameTakesLineReset : running.Takes .reset 0 (sent .reset 14 250 []) := by decide +kernel

/-- Station 14 after POWER_LOSS, one unit of the clock later. -/
def unpowered : State := { ({ running with powered := false } : State).heldAtPowerOn with now := t0 + 1 }

theorem witness_PowerLossTakesOutputsLow :
    unpowered.HeldUnpowered ∧ Instr.rstnRelease ≠ .powerUp ∧ (∃ t, exec .rstnRelease unpowered = .next t) ∧
      unpowered.pending.head? ≠ some .powerUp ∧ ∃ t, step unpowered = .next t :=
  ⟨⟨rfl, t0, rfl⟩, by decide, ⟨_, rfl⟩, by decide, ⟨_, rfl⟩⟩

theorem images_good : ∀ image ∈ [image14, imageMeter], image.length = 96 ∧ structuralFailure image = false := by
  intro image h
  simp only [List.mem_cons, List.not_mem_nil, or_false] at h
  rcases h with rfl | rfl
  · exact ⟨rfl, test_image14_good⟩
  · exact ⟨rfl, test_imageMeter_good⟩

theorem witness_GoodRecordEntersListening :
    State.reset.cl.readDue = some 15840 ∧ State.reset.le.station = .configuring ∧
      (∀ image ∈ [image14, imageMeter], image.length = 96 ∧ structuralFailure image = false) ∧
      needsCorrection imageMeter = true ∧ channelNumber .ch1 < (correctedRecord imageMeter).channelCount ∧
      (correctedRecord imageMeter).channelCount ≤ channelNumber .ch2 ∧ (∀ k, (State.reset.ch.get k).state = .off) :=
  ⟨rfl, rfl, images_good, by decide +kernel, by decide +kernel,
    by decide +kernel, fun k => by cases k <;> rfl⟩

theorem witness_EntryToListeningStartsBlocks :
    State.reset.cl.readDue = some 15840 ∧ State.reset.le.station = .configuring ∧ State.reset.phinInBand = true ∧
      ({ State.reset with phinInBand := false } : State).phinInBand = false ∧
      (∀ image ∈ [image14, imageMeter], image.length = 96 ∧ structuralFailure image = false) ∧
      (correctedRecord image14).side = none ∧ (correctedRecord imageMeter).side ≠ none :=
  ⟨rfl, rfl, rfl, rfl, images_good, by decide +kernel,
    by decide +kernel⟩

theorem witness_LoadedRecordWithinRanges :
    needsCorrection image14 = false ∧ (correctedRecord image14).distanceB = some 1405 ∧
      (correctedRecord image14).neighbours = [13, 15] := by decide +kernel

theorem witness_StructuralFailureEntersFallback :
    State.reset.cl.readDue = some 15840 ∧ State.reset.le.station = .configuring ∧
      (let blank : List Byte := List.replicate 96 255
       blank.length = 96 ∧ structuralFailure blank = true ∧ noResponse blank = true) ∧
      (let short := image14.set 16 1
       short.length = 96 ∧ structuralFailure short = true ∧ noResponse short = false) :=
  ⟨rfl, rfl, ⟨rfl, by decide +kernel, by decide +kernel⟩,
    ⟨rfl, by simp only [structuralFailure, show profileUsable (recordProfile (image14.set 16 1)) = false by decide +kernel]; simp,
      by decide +kernel⟩⟩

theorem witness_HighCountDiscarded :
    meter.pfe.sampleTimer = some t0 ∧ meter.pfe.sensorFault = false ∧ 3968 ≤ (3968#12).toNat ∧ 3968 ≤ (4095#12).toNat ∧
      meter.pfe.gain ≠ .g1 ∧ faulty.pfe.sampleTimer = some t0 ∧ faulty.pfe.sensorFault = true := by decide

/-- The meter with a gain and a window of `n` samples taken at it. -/
def sampled (g : Gain) (n : Nat) : State :=
  { meter with pfe := { meter.pfe with
      gain := g, readingGain := g, window := List.replicate n { luminance := 16000, saturated := false, gain := g } } }

theorem witness_KeptSampleFormsReading :
    (∀ n ∈ [0, 1, 2, 3], ∀ g ∈ [Gain.g1, .g8, .g16],
      (sampled g n).pfe.sampleTimer = some t0 ∧ (sampled g n).pfe.sensorFault = false ∧ (sampled g n).pfe.window.length ≤ 3) ∧
      (3967#12).toNat < 3968 ∧ (1023#12).toNat < 1024 ∧ (sampled .g1 2).pfe.gain = .g1 ∧ 3968 ≤ (3968#12).toNat := by decide

theorem witness_EarlyPortalReport :
    meter.pfe.sampleTimer = some t0 ∧ meter.pfe.sensorFault = false ∧ meter.cfg.side = some .a ∧ (3967#12).toNat < 3968 ∧
      (sampled .g1 3).cfg.side = some .a ∧ (sampled .g1 3).pfe.gain = .g1 ∧ (sampled .g1 3).pfe.sampleTimer = some t0 := by decide

theorem witness_PhinLeavingBandBeginsSensorFault :
    meter.le.station.regulates = true ∧ meter.cfg.side = some .a ∧ meter.pfe.sensorFault = false ∧
      faulty.le.station.regulates = true ∧ faulty.cfg.side = some .a ∧ faulty.pfe.sensorFault = true ∧
      fallback.le.station.regulates = false ∧ running.cfg.side = none := by decide

theorem witness_RecoveryEndsSensorFault :
    faulty.pfeOn = true ∧ faulty.pfe.sensorFault = true ∧ faulty.phinInBand = false ∧ faulty.pfe.recoveryTimer = some t0 ∧
      running.pfeOn = false ∧ ({ running with phinInBand := false } : State).phinInBand = false ∧
      running.phinInBand = true := by decide

theorem witness_PortalReportTimerPlaces :
    (let read : State := { meter with pfe := { meter.pfe with reading := some 16000 } }
     read.pfe.reportTimer = some t0 ∧ read.cfg.side = some .a ∧ read.pfe.reading = some 16000 ∧ read.pfe.sensorFault = false) ∧
      faulty.pfe.reportTimer = some t0 ∧ faulty.cfg.side = some .a ∧ faulty.pfe.sensorFault = true ∧
      meter.pfe.reportTimer = some t0 ∧ meter.cfg.side = some .a ∧ meter.pfe.reading = none ∧ meter.pfe.sensorFault = false := by decide

/-- A new ordinary entry as R22 makes it. -/
def fresh (a : Byte) : Entry := newEntry a false t0

theorem witness_LevelFrameTaken :
    (∀ src ∈ [13#8, 254#8], running.Takes .level 11 (sent .level 255 src (List.replicate 11 255))) ∧
      running.le.station.regulates = true ∧ running.EntryFor 13 (newEntry 13 true t0) ∧ running.EntryFor 254 (fresh 254) ∧
      (newEntry 13 true t0).reserved = true ∧ (newEntry 13 true t0).level = none ∧ (fresh 254).reserved = false ∧
      (fresh 254).level = none := by decide +kernel

theorem witness_PortalFrameTaken :
    (∀ b ∈ [0#8, 1#8, 2#8, 3#8], running.Takes .portal 5 (sent .portal 255 254 [b, 255, 255, 16, 0x83])) ∧
      running.le.station.regulates = true ∧ running.EntryFor 254 (fresh 254) ∧ (fresh 254).portal = none ∧
      byteAt [1, 255, 255, 16, 0x83] 0 = Side.a.code ∧ byteAt [2, 255, 255, 16, 0x83] 0 = Side.b.code := by decide +kernel

theorem witness_IdentFrameTaken :
    (∀ n ∈ [4, 48], running.Takes .ident n (sent .ident 255 254 (List.replicate n 2))) ∧
      running.le.station.regulates = true ∧ running.EntryFor 254 (fresh 254) := by decide +kernel

/-- An entry of station 9 that holds both parts with tag 3, the RESTART mark on the portal part only. -/
def both : Entry :=
  { newEntry 9 false t0 with
    portal := some { side := .a, luminance := 5, sensorFault := false, restart := true, tag := 3, takenAt := t0, aged := .fresh },
    level := some { delivered := 5, restart := false, tag := 3, takenAt := t0, aged := .fresh } }

/-- Station 14 with an entry for station 9. -/
def heard : State := { running with pt := { running.pt with entries := [both] } }

theorem witness_DuplicateReportDiscarded :
    heard.le.station.regulates = true ∧ findEntry heard.pt.entries 9 = some both ∧
      (let f := sent .level 255 9 (List.replicate 11 0)
       heard.Takes .level 11 f ∧ both.level.map LevelPart.tag = some f.tag ∧ (byteAt f.payload 6).getLsbD 7 = false) ∧
      (let f := sent .portal 255 9 [1, 0, 5, 16, 0x80]
       heard.Takes .portal 5 f ∧ both.portal.map PortalPart.tag = some f.tag ∧ both.portal.map PortalPart.restart = some true) := by
  decide +kernel

/-- The further forms of the same statement: source 255, and FALLBACK. -/
theorem witness_DuplicateReportDiscarded_ignored :
    (sent .ident 255 255 [0, 0, 0, 0]).src = 255 ∧ running.Takes .ident 4 (sent .ident 255 255 [0, 0, 0, 0]) ∧
      fallback.le.station = .fallback ∧ fallback.Takes .level 11 (sent .level 255 9 (List.replicate 11 0)) ∧
      running.Takes .portal 5 (sent .portal 255 255 [1, 0, 5, 16, 0]) := by
  decide +kernel

/-- Station 14 with a full table, every entry last heard the lost time ago, with ENTRY_LOST taken or not yet. -/
def full (taken : Bool) : State :=
  { running with pt := { running.pt with
      entries := (List.range 32).map fun i => { newEntry (BitVec.ofNat 8 (i + 20)) false 0 with agedOut := taken } } }

theorem full_heard (s : State) (h : s ∈ [full true, full false]) :
    s.Takes .level 11 (sent .level 255 9 (List.replicate 11 0)) ∧ s.Takes .portal 5 (sent .portal 255 9 [1, 0, 5, 16, 0]) ∧
      s.Takes .ident 4 (sent .ident 255 9 [0, 0, 0, 0]) := by
  revert s; decide +kernel

theorem witness_FullTableReplacesOrRefuses :
    (∀ s ∈ [full true, full false], s.le.station.regulates = true ∧ s.pt.entries.length = 32 ∧ findEntry s.pt.entries 9 = none ∧
      s.pt.entries.Pairwise (fun x y => x.addr < y.addr)) ∧
    (∃ e ∈ (full true).pt.entries, e.reserved = false ∧ (full true).entryLost e = true) ∧
    (∀ e ∈ (full false).pt.entries, e.reserved = true ∨ (full false).entryLost e = false) :=
  ⟨by decide +kernel, by decide +kernel, by decide +kernel⟩

theorem witness_AgeingChangesFreshness :
    heard.le.station.regulates = true ∧ heard.cfg.staleTime < heard.cfg.lostTime ∧ heard.cfg.lostTime ≤ 60000 ∧
      heard.partTakenAt 9 .levelPart = some t0 ∧ heard.partTakenAt 9 .portalPart = some t0 ∧
      both.level.map LevelPart.aged = some .fresh ∧ both.portal.map PortalPart.aged = some .fresh ∧
      heard.now ≤ t0 + 20000 * heard.cfg.staleTime ∧ heard.now ≤ t0 + 20000 * heard.cfg.lostTime ∧
      both.portal ≠ none ∧
      (findEntry heard.pt.entries 9).map Entry.reserved = some false ∧
      (let s : State := { heard with pt := { heard.pt with entries := [{ both with reserved := true }] } }
       s.partTakenAt 9 .levelPart = some t0 ∧ (findEntry s.pt.entries 9).map Entry.reserved = some true ∧ s.le.station = .running) ∧
      findEntry running.pt.entries 13 = some (newEntry 13 true t0) ∧ (newEntry 13 true t0).portal = none ∧
      (newEntry 13 true t0).level = none ∧ running.now ≤ t0 + 20000 * running.cfg.lostTime := by decide

theorem running_tableSound : running.TableSound := by unfold State.TableSound; decide

theorem witness_CandidatesGathered : running.TableSound ∧ update14.TableSound :=
  ⟨running_tableSound, by unfold State.TableSound; decide⟩

/-- Station 14 whose side A had a candidate `age` ago. -/
def sideHeard (age : Time) : State :=
  { running with
    le := { running.le with updateTimer := some 2000000000 },
    pa := { running.pa with
      a := { running.pa.a with lastAggregate := some 2460, everValid := true, validAt := 2000000000 - age } } }

theorem witness_SideFormedAtUpdate :
    update14.le.updateTimer = some (t0 + 10) ∧ update14.le.station.regulates = true ∧ running.cfg.distanceB ≠ none ∧
      ((update14.elapseTo (t0 + 10)).candidates .a).map Prod.snd = [5860, 6120, 5590] ∧
      (update14.elapseTo (t0 + 10)).candidates .b = [] ∧ update14.pa.b.everValid = false ∧
      (∀ s ∈ [sideHeard 1199999999, sideHeard 1200000000],
        s.le.updateTimer = some 2000000000 ∧ s.pa.a.everValid = true ∧ (s.elapseTo 2000000000).candidates .a = []) ∧
      max (sideHeard 1199999999).now 2000000000 - (sideHeard 1199999999).pa.a.validAt < 20000000 * running.cfg.holdTime ∧
      ¬max (sideHeard 1200000000).now 2000000000 - (sideHeard 1200000000).pa.a.validAt < 20000000 * running.cfg.holdTime := by
  decide +kernel

theorem witness_DemandAtUpdate :
    update14.le.updateTimer = some (t0 + 10) ∧ update14.le.station.regulates = true ∧ listening.le.station.regulates = true ∧
      listening.le.updateTimer = some (t0 + 10) := by decide

theorem witness_RoundingIsTowardLight :
    (16000 ≤ 16000 ∧ 100 ≤ 100 ∧ 1200 ≤ 1200 ∧ 1000 ≤ 1000) ∧ (1 ≤ 1 ∧ 1 ≤ 2000 ∧ 2000 ≤ 2000) := by decide

theorem witness_NeighbourFloorIsLowest :
    1 ≤ update14.cfg.stepRatio ∧
      (let l : LevelPart := { delivered := 352, restart := false, tag := 0, takenAt := t0, aged := .fresh }
       let e : Entry := { newEntry 13 true t0 with level := some l }
       e ∈ update14.pt.entries ∧ e.reserved = true ∧ e.level = some l ∧ update14.freshness l.takenAt l.aged = .fresh ∧
         ({ update14 with now := t0 + 40000001 } : State).freshness l.takenAt l.aged ≠ .fresh) ∧
      both.reserved = false := by decide

theorem witness_StationRatioInterpolates :
    profileUsable ([⟨0, 1000⟩] ++ ⟨60, 1000⟩ :: ⟨120, 500⟩ :: [⟨200, 250⟩]) = true ∧ 60 < 61 ∧ 119 < 120 ∧
      profileUsable ([] ++ ⟨0, 1000⟩ :: ⟨2000, 0⟩ :: []) = true ∧ 2000 < 2001 := by decide

theorem witness_TrimAppliedOrRefused :
    (∀ s ∈ [running, fallback], s.Takes .trim 3 (sent .trim 14 250 [0xFF, 0xFF, 1])) ∧ running.le.station.regulates = true ∧
      running.cfg.trimPermitted = true ∧ running.dc.lockDown = false ∧
      (let locked : State := { running with dc := { running.dc with lockDown := true } }
       locked.Takes .trim 3 (sent .trim 14 250 [0, 0, 0]) ∧ locked.le.station.regulates = true ∧ locked.dc.lockDown = true) ∧
      fallback.le.station = .fallback := by decide +kernel

theorem witness_UpdateOutsideRunning :
    listening.le.updateTimer = some (t0 + 10) ∧ listening.le.station = .listening ∧ fallback.le.updateTimer = some (t0 + 10) ∧
      fallback.le.station = .fallback ∧ State.reset.le.updateTimer = some 2000000 ∧ State.reset.le.station = .configuring := by decide

/-- Station 14 with one override entry. -/
def overridden (k : OverrideKind) : State :=
  { running with ol := { running.ol with
      entries := [{ source := 250, kind := k, floorLevel := if k = .floor then some 300 else none, remaining := 1, secondDue := t0 + 1 }] } }

theorem witness_RunningUpdateSetsLevel :
    running.le.updateTimer = some (t0 + 10) ∧ running.le.station = .running ∧ (overridden .full).FullInForce ∧
      ¬(overridden .hold).FullInForce ∧ (overridden .hold).HoldInForce ∧ ¬running.FullInForce ∧ ¬running.HoldInForce := by decide

theorem witness_LevelReportPlacement :
    (∀ s ∈ [running, listening, fallback], s.le.updateTimer = some (t0 + 10) ∧ s.le.station ≠ .configuring) := by decide

theorem witness_OutputMovesWithinLimits :
    ∃ t u, step { running with pending := [.levelUpdate] } = .next t ∧ exec .rstnAssert running = .next u ∧
      Instr.rstnAssert ≠ .levelUpdate := ⟨_, _, rfl, rfl, by decide⟩

theorem witness_ListeningExpiryEntersRunning :
    listening.le.listeningTimer = some (t0 + 10) ∧ listening.le.station = .listening := by decide

theorem witness_StationTransitions :
    ∃ t, exec .listeningTimerExpiry listening = .next t ∧ t.le.station ≠ listening.le.station := ⟨_, rfl, by decide⟩

theorem witness_OrderRefreshesOrIsAdmitted :
    (∀ k ∈ [OverrideKind.full, .floor, .hold],
      running.Takes .override 5 (sent .override 14 250 [overrideCode k, 255, 255, 0, 1]) ∧
        (overridden k).Takes .override 5 (sent .override 14 250 [overrideCode k, 255, 255, 255, 255]) ∧
        (∃ x ∈ (overridden k).ol.entries, x.source = 250 ∧ x.kind = k) ∧
        (∀ x ∈ running.ol.entries, ¬(x.source = 250 ∧ x.kind = k)) ∧ running.ol.entries.length < 4) ∧
      running.le.station.regulates = true ∧ 1 ≤ fieldAt [1, 255, 255, 0, 1] 3 ∧ ¬running.FullInForce ∧
      (overridden .full).FullInForce := by decide +kernel

/-- Station 14 with a full list of HOLD or FULL entries. -/
def fullList (k : OverrideKind) : State :=
  { running with ol := { running.ol with
      entries := [1, 2, 3, 4].map fun a => { source := a, kind := k, floorLevel := none, remaining := 3600, secondDue := t0 + 1 } } }

theorem witness_OrderAtFullList :
    (∀ s ∈ [fullList .full, fullList .hold],
      s.Takes .override 5 (sent .override 14 250 [2, 1, 44, 0, 1]) ∧ s.le.station.regulates = true ∧
        (∀ x ∈ s.ol.entries, ¬(x.source = 250 ∧ x.kind = .floor)) ∧ s.ol.entries.length = 4) ∧
      (fullList .full).ListSound ∧ (fullList .hold).ListSound ∧
      (∀ x ∈ (fullList .full).ol.entries, overridePriority .floor < overridePriority x.kind) ∧
      (∃ x ∈ (fullList .hold).ol.entries, overridePriority x.kind ≤ overridePriority .floor) ∧
      (fullList .hold).Takes .override 5 (sent .override 14 250 [1, 0, 0, 0, 1]) ∧ ¬(fullList .hold).FullInForce ∧
      (fullList .hold).le.station = .running :=
  ⟨by decide +kernel, by unfold State.ListSound; decide, by unfold State.ListSound; decide, by decide, by decide, by decide +kernel,
    by decide, rfl⟩

theorem witness_ReleaseAndExpiryRemove :
    running.Takes .override 5 (sent .override 14 250 [1, 0, 0, 0, 0]) ∧ running.le.station.regulates = true ∧
      byteAt [1, 0, 0, 0, 0] 0 = overrideCode .full ∧ fieldAt [1, 0, 0, 0, 0] 3 = 0 ∧ (overridden .full).ListSound ∧
      (∃ e, (overridden .full).ol.entries = [] ++ e :: [] ∧ e.remaining ≤ 1) ∧
      (∃ before e after, (fullList .hold).ol.entries = before ++ e :: after ∧ ¬e.remaining ≤ 1) ∧
      fallback.Takes .override 5 (sent .override 14 250 [1, 0, 0, 0, 1]) ∧ fallback.le.station = .fallback ∧
      running.Takes .override 5 (sent .override 14 255 [1, 0, 0, 0, 1]) ∧
      running.Takes .override 5 (sent .override 14 250 [4, 0, 0, 0, 1]) ∧ byteAt [4, 0, 0, 0, 1] 0 ≠ 3 :=
  ⟨by decide +kernel, rfl, rfl, rfl, by unfold State.ListSound; decide, ⟨_, rfl, by decide⟩, ⟨[], _, _, rfl, by decide⟩,
    by decide +kernel, rfl, by decide +kernel, by decide +kernel, by decide⟩

theorem witness_FullinPinDebounced :
    running.fullinClosed ≠ true ∧ running.powered = true ∧ running.rstnLow = false ∧
      (let held : State := { running with rstnLow := true }
       held.fullinClosed ≠ true ∧ held.rstnLow = true) ∧
      (let s : State := { running with ol := { running.ol with debounceTimer := some t0 } }
       s.ol.debounceTimer = some t0 ∧ s.fullinClosed = s.ol.contactClosed) := by decide

/-- Station 14 with propagation on, the debounce and propagation timers running. -/
def contact (pin held : Bool) : State :=
  { running with
    cl := { running.cl with record := some { record14 with propagate := true } }, fullinClosed := pin,
    ol := { running.ol with contactClosed := held, debounceTimer := some t0, propagationTimer := some t0 } }

theorem witness_ContactActsAndPropagates :
    (contact true false).ol.debounceTimer = some t0 ∧ (contact true false).fullinClosed = true ∧
      (contact true false).ol.contactClosed = false ∧ (contact false true).fullinClosed = false ∧
      (contact false true).ol.contactClosed = true ∧ (contact true true).ol.propagationTimer = some t0 ∧
      (contact true true).ol.contactClosed = true ∧ (contact true true).propagates = true ∧
      (∀ e ∈ (contact true false).ol.entries, e.kind ≠ .full) := by decide

theorem witness_CommandsCompensate :
    running.le.updateTimer = some (t0 + 10) ∧ running.le.station ≠ .configuring ∧ 1 ≤ running.channelCount ∧
      1 ≤ running.ch.healthyCount running.channelCount ∧
      running.ch.healthyCount running.channelCount ≤ running.channelCount := by decide

theorem witness_ChannelTimersRun :
    (let c : Channel := { running.ch.c1 with state := .retryWait, retryTimer := some t0, history := [0] }
     let s : State := running.setChannel .ch1 c
     s.powered = true ∧ s.ch.pwmTimer = some (t0 - 1000 + 10000) ∧ (s.ch.get .ch1).retryTimer = some t0 ∧ (s.ch.get .ch1).state = .retryWait ∧
       (s.ch.get .ch1).history = 0 :: []) := by decide

/-- Station 14 with CH0 at a count, with a history, in a protection mode. -/
def tripping (m : ProtectionMode) (count applied : Nat) (history : List Time) : State :=
  { running with
    cl := { running.cl with record := some { record14 with mode := m } },
    ch := { running.ch with c0 := { running.ch.c0 with tripped := count, applied := applied, history := history } } }

theorem witness_TripsByMode :
    (∀ s ∈ [tripping .period 62 1000 [], tripping .period 63 10000 [], tripping .retry 0 1000 [0, 0], tripping .retry 0 1001 [0, 0, 0],
        tripping .latch 0 1001 []],
      s.ch.pwmTimer = some (t0 - 1000 + 10000) ∧ s.powered = true ∧
        (s.ch.get .ch0).state = .driving ∧ 1 ≤ (s.ch.get .ch0).applied ∧ (s.ch.get .ch0).cut = false ∧
        (let moment := max s.now ((s.ch.get .ch0).pulseStart + s.filterCounts)
         (s.ch.get .ch0).applied = 10000 ∨ moment < t0 - 1000 + (s.ch.get .ch0).applied ∨
           1 ≤ s.filterCounts ∧ moment = t0 - 1000 + (s.ch.get .ch0).applied)) ∧
      (let s := tripping .retry 0 999 []
       (s.ch.get .ch0).applied ≠ 10000 ∧
         t0 - 1000 + (s.ch.get .ch0).applied < max s.now ((s.ch.get .ch0).pulseStart + s.filterCounts)) ∧
      (tripping .period 62 1000 []).protection = .period ∧ ((tripping .period 62 1000 []).ch.get .ch0).tripped + 1 < 64 ∧
      64 ≤ ((tripping .period 63 10000 []).ch.get .ch0).tripped + 1 ∧ (tripping .retry 0 1000 [0, 0]).protection = .retry ∧
      ((tripping .retry 0 1000 [0, 0]).ch.get .ch0).history.length < 3 ∧
      3 ≤ ((tripping .retry 0 1001 [0, 0, 0]).ch.get .ch0).history.length ∧ (tripping .latch 0 1001 []).protection = .latch := by decide

theorem witness_ValuesInForce :
    running.le.station = .running ∧ running.cl.record = some record14 ∧ fallback.le.station = .fallback ∧
      fallback.cl.record = none ∧ fallback.cl.fallback = some { reportPeriod := 500, yield := 10 } := by decide

theorem witness_OpenLoadMarksAndEnds :
    (running.ch.get .ch0).openTimer = some (t0 + 1000) ∧ (running.ch.get .ch0).state = .driving ∧
      running.gateDrive .ch0 = true ∧ (running.ch.get .ch0).openMark = false ∧
      (let s : State := running.setChannel .ch0 { running.ch.c0 with openMark := true, openTimer := none, applied := 1001 }
       (s.ch.get .ch0).openMark = true ∧ (s.ch.get .ch0).state = .driving ∧ s.gateDrive .ch0 = true) ∧
      (let s : State := running.setChannel .ch0 { running.ch.c0 with openTimer := none, applied := 1000 }
       (s.ch.get .ch0).openTimer = none ∧ s.gateDrive .ch0 = false) := by decide

theorem running_conditionsFlagged : running.ConditionsFlagged := fun f => by cases f <;> decide

theorem running_alarmFollowsFlags : running.AlarmFollowsFlags := by
  simp [State.AlarmFollowsFlags, running, State.reset, FaultRecord.atReset]

theorem witness_ClearActsOnChannelsThenFlags :
    running.Takes .clear 3 (sent .clear 14 250 [0x1F, 0xFF, 15]) ∧ running.ConditionsFlagged ∧
      (byteAt [0x1F, 0xFF, 15] 2).getLsbD (channelNumber .ch0) = true ∧
      (let s : State := running.setChannel .ch0 { running.ch.c0 with state := .retryWait, retryTimer := some t0 }
       s.Takes .clear 3 (sent .clear 14 250 [0x1F, 0xFF, 15]) ∧ s.ConditionsFlagged ∧ (s.ch.get .ch0).state = .retryWait) :=
  ⟨by decide +kernel, running_conditionsFlagged, by decide, by decide +kernel, fun f => by cases f <;> decide, rfl⟩

theorem witness_FlagsAreSticky :
    (let s := running.raiseIf true .configFault
     s.fr.isSet .configFault = true ∧ ∃ t, exec .powerLoss s = .next t) := ⟨by decide, _, rfl⟩

theorem witness_FrameChecksInOrder :
    (sent .trim 14 250 [3, 232, 0]).payload.length ≤ 48 ∧ running.Hears ∧ ¬State.reset.Hears ∧
      (let crc (k : FrameKind) (f : Frame) : Word16 :=
         crc16 (f.dest :: f.src :: k.code :: f.tag :: BitVec.ofNat 8 f.payload.length :: f.payload)
       let good := sent .trim 15 250 [3, 232, 0]
       let bad : Frame := { good with tag := 4 }
       crc .trim good = good.crc ∧ crc .trim bad ≠ bad.crc ∧ ¬running.AddressedBy good.dest ∧
         good.src ≠ 0 ∧ good.src ≠ running.line.address ∧ FrameKind.trim.lengthFits good.payload.length = true ∧
         (sent .trim 14 0 [3, 232, 0]).src = 0 ∧ FrameKind.trim.lengthFits (sent .trim 14 250 [3, 232]).payload.length = false ∧
         (sent .trim 14 14 [3, 232, 0]).src = running.line.address) := by decide +kernel

theorem witness_FrameByCharacters : (sent .ident 14 250 (List.replicate 48 0)).payload.length ≤ 48 ∧ running.Hears := by
  decide +kernel

/-- Station 14 with `n` characters assembled, the last of them `len`. -/
def assembling (n : Nat) (len : Byte) : State :=
  { running with lc := { running.lc with assembly := List.replicate (n - 1) 1 ++ [len] } }

theorem witness_CharacterAssembled :
    State.reset.le.station = .configuring ∧ running.Hears ∧ running.lc.assembly = [] ∧
      (∀ s ∈ [assembling 1 0, assembling 3 0, assembling 4 0, assembling 5 48, assembling 5 0], s.Hears ∧ 1 ≤ s.lc.assembly.length) ∧
      (assembling 3 0).lc.assembly.length + 1 < 5 ∧ (byteAt ((assembling 4 0).lc.assembly ++ [48]) 4).toNat ≤ 48 ∧
      (assembling 4 0).lc.assembly.length + 1 < 7 + 48 ∧ (assembling 4 0).lc.assembly.length = 4 ∧ 48 < (49#8).toNat ∧
      (assembling 5 0).lc.assembly.length + 1 < 7 + (byteAt ((assembling 5 0).lc.assembly ++ [0]) 4).toNat ∧
      (let s : State := running.withAssembly [255, 9, 9, 0, 0, 0x12]
       s.Hears ∧ 4 ≤ s.lc.assembly.length ∧ (s.lc.assembly ++ [0x34]).length = 7 + (byteAt (s.lc.assembly ++ [0x34]) 4).toNat ∧
         8 < (byteAt (s.lc.assembly ++ [0x34]) 2).toNat) := by decide

theorem witness_IdentReqAnswered : running.Takes .identReq 0 (sent .identReq 14 250 []) := by decide +kernel

theorem witness_ReportsReadBack : 65535 < 65536 ∧ 15 < 16 ∧ fallback.le.station ≠ .configuring ∧ meter.le.station ≠ .configuring ∧
    (∀ r ∈ [(2#8, [1#8]), (9, []), (3, [0])], r.2.length < 256) ∧ [3#8, 1].length < 2 + (byteAt [3#8, 1] 1).toNat := by
  decide

/-- A content of the LEVEL slot. -/
def content : Content := { dest := 255, kind := .level, tag := 0, payload := List.replicate 11 0 }

/-- Station 14 with the LEVEL slot occupied after `n` collisions and an attempt in phase `ph`. -/
def attempting (ph : Phase) (n : Nat) : State :=
  { running with lc := { running.lc with
      slots := running.lc.slots.set .level { content := some content, attempts := n },
      attempt := some { slot := .level, content := content, refilled := false, phase := ph } } }

theorem witness_IdleLineStartsAttempt :
    running.le.station ≠ .configuring ∧ running.lc.idle = false ∧ running.lc.attempt = none ∧
      (∀ k, (running.lc.slots.get k).content = none) ∧
      (let s : State := { running with lc := { running.lc with slots := running.lc.slots.set .level { content := some content, attempts := 7 } } }
       s.lc.idle = false ∧ s.lc.attempt = none ∧ (s.lc.slots.get .level).content = some content ∧
         ∀ j : SlotId, j.rank < SlotId.level.rank → (s.lc.slots.get j).content = none) :=
  ⟨by decide, rfl, rfl, fun k => by cases k <;> rfl, rfl, rfl, rfl, fun j => by cases j <;> decide⟩

theorem witness_AttemptSendsContent :
    running.powered = true ∧ running.lc.attempt = none ∧ (∃ a, (attempting (.waiting t0) 0).lc.attempt = some a ∧ a.phase = .waiting t0) ∧ (attempting (.waiting t0) 0).powered = true ∧
      (∃ a, (attempting (.sending t0 18) 0).lc.attempt = some a ∧ a.phase = .sending t0 18) ∧
      ∃ c, (content.chars 14)[0]? = some c ∧ (attempting (.sending t0 0) 0).now = t0 + 0 * 5730 + 0 :=
  ⟨rfl, rfl, ⟨_, rfl, rfl⟩, rfl, ⟨_, rfl, rfl⟩, ⟨255, true, true⟩, by decide +kernel, rfl⟩

theorem witness_ReadBackDecidesAttempt :
    running.le.station ≠ .configuring ∧
      (∃ a, (attempting (.sending t0 0) 0).lc.attempt = some a ∧ a.phase = .sending t0 0) ∧
      ∃ a mine, (attempting (.sending t0 17) 0).lc.attempt = some a ∧ a.phase = .sending t0 17 ∧
        (a.content.chars 14)[17]? = some mine ∧ (0#8 ≠ mine.data ∨ true ≠ mine.mark) :=
  ⟨by decide, ⟨_, rfl, rfl⟩, ⟨_, ⟨0x2F, false, true⟩, rfl, rfl, by decide +kernel, by decide⟩⟩

theorem witness_CollisionRetriesThenDrops :
    (∃ a, (attempting (.sending t0 0) 6).lc.attempt = some a ∧ a.phase = .sending t0 0) ∧
      ((attempting (.sending t0 0) 6).lc.slots.get .level).attempts + 1 < 8 ∧
      (∃ a, (attempting (.sending t0 0) 7).lc.attempt = some a ∧ a.phase = .sending t0 0) ∧
      8 ≤ ((attempting (.sending t0 0) 7).lc.slots.get .level).attempts + 1 :=
  ⟨⟨_, rfl, rfl⟩, by decide, ⟨_, rfl, rfl⟩, by decide⟩

theorem witness_GuardAndActTimers :
    (let s (a : Act) : State := { running with lc := { running.lc with guardTimer := some t0, act := a } }
     (s (.lit t0)).lc.guardTimer = some t0 ∧ (s (.lit t0)).lc.act = .lit t0 ∧ (s (.guarding t0)).lc.act = .guarding t0) := by decide

theorem witness_StepKeepsFaultRecord :
    running.AlarmFollowsFlags ∧ running.ConditionsFlagged ∧ ∃ t, step running = .next t :=
  ⟨running_alarmFollowsFlags, running_conditionsFlagged, _, rfl⟩

theorem witness_StepKeepsTablesAndLine :
    (overridden .full).TableSound ∧ (overridden .full).ListSound ∧ (overridden .full).LineSound ∧ ∃ t, step (overridden .full) = .next t :=
  ⟨running_tableSound, by unfold State.ListSound; decide,
    ⟨fun k => by cases k <;> decide, by decide, by decide, by decide, by decide⟩, _, rfl⟩

theorem witness_StepKeepsOutputAndFrontEnd :
    (running.OutputSound ∧ running.FrontEndSound ∧ ∃ t, step running = .next t) ∧ running.TrimSound ∧
      (let s : State := { running with dc := { running.dc with lockDown := true } }
       s.dc.lockDown = true ∧ ∃ t, step s = .next t) :=
  ⟨⟨⟨by decide, by decide, by rintro l ⟨⟩; decide, fun k => by cases k <;> (unfold Channel.Sound; decide), by rintro ⟨⟩⟩,
    ⟨by decide, by decide, (by rintro l ⟨⟩), by decide, by decide, by decide⟩, _, rfl⟩,
    ⟨by decide, by decide, by rintro t ⟨⟩⟩, rfl, _, rfl⟩

end Sys2Proof.Tests
end

section
/-! PROOF. A whole frame that a station takes reaches the owner of its kind (R150 to R154), and what a TRIM does there (R55 to R58). -/

namespace Sys2Proof.Machine

/-! ### The checks of a whole frame (R151 to R153) -/

/-- The kind character of a kind names that kind. -/
@[simp] theorem FrameKind.ofCode_code (k : FrameKind) : FrameKind.ofCode k.code = some k := by cases k <;> rfl

/-- A length that fits its kind is no overlong one (R150, R151). -/
theorem FrameKind.le_maxPayload_of_lengthFits {k : FrameKind} {len : Nat} (h : k.lengthFits len = true) : len ≤ maxPayload := by
  unfold maxPayload
  cases k <;> simp only [FrameKind.lengthFits, beq_iff_eq, Bool.and_eq_true, decide_eq_true_eq] at h <;> omega

/-- Two bytes differ nowhere under a mask exactly when they agree at each of its bits. -/
theorem masked_xor_eq_zero_iff (x y m : Byte) :
    (x ^^^ y) &&& m = 0 ↔ ∀ i < 8, m.getLsbD i = true → x.getLsbD i = y.getLsbD i := by
  constructor
  · intro h i _ hm
    have hbit : ((x ^^^ y) &&& m).getLsbD i = false := by simp [h]
    simpa [hm] using hbit
  · intro h
    refine BitVec.eq_of_getLsbD_eq fun i hi => ?_
    cases hm : m.getLsbD i with
    | false => simp [hm]
    | true => simp [h i hi hm]

/-- The addressing check is R153. -/
theorem State.line_addressed_iff (s : State) (dest : Byte) : s.line.addressed dest = true ↔ s.AddressedBy dest := by
  simp [LineParams.addressed, State.AddressedBy, ← masked_xor_eq_zero_iff, or_assoc]

/-- A frame that the station takes passes the checks of R151. -/
theorem State.Takes.checkFrame_eq {s : State} {k : FrameKind} {len : Nat} {f : Frame} (h : s.Takes k len f)
    (hfits : k.lengthFits len = true) : checkFrame s.line (rawOfFrame k f) = .accepted k := by
  obtain ⟨_, ⟨hlen, hsrc, hcrc⟩, hother, haddr⟩ := h
  have hcovered : crc16 (rawOfFrame k f).covered = f.crc := by simp only [RawFrame.covered, rawOfFrame, hlen, hcrc]
  have haddressed := (s.line_addressed_iff f.dest).2 haddr
  rw [← hlen] at hfits
  simp only [checkFrame, hcovered]
  simp [rawOfFrame, show f.src ≠ 0#8 from hsrc, hfits, hother, haddressed]

/-! ### What hearing a frame does to the line controller (R150, R158, R161) -/

/-- Without a content being sent, a character leaves no attempt (R158). -/
theorem LineControl.noteCharacter_of_not_sending {lc : LineControl} (h : lc.sending = false) (now : Time) :
    lc.noteCharacter now = { lc with idle := false, lastChar := now, attempt := none } := by
  unfold LineControl.sending at h
  unfold LineControl.noteCharacter
  cases ha : lc.attempt with
  | none => rfl
  | some a => cases hp : a.phase with
    | waiting _ => simp [hp]
    | sending _ _ => simp [ha, hp] at h

/-- The state once a whole valid frame has been heard, and before its owner takes it. -/
abbrev State.afterFrame (s : State) : State := { s with lc := s.lineAfterFrame }

/-- Hearing a whole valid frame while not sending gives `afterFrame`. -/
theorem State.heardFrame_lightAct {s : State} (h : s.lc.sending = false) :
    (({ s with lc := s.lc.noteCharacter s.now } : State).withAssembly []).lightAct = s.afterFrame := by
  rw [LineControl.noteCharacter_of_not_sending h]
  rfl

/-- A frame that the station takes is handed to the owner of its kind, after the line controller has noted it. -/
theorem State.Takes.frameStep_eq {s : State} {k : FrameKind} {len : Nat} {f : Frame} (h : s.Takes k len f)
    (hfits : k.lengthFits len = true) :
    s.frameStep k f = s.afterFrame.dispatch k (rawOfFrame k f) := by
  have hcheck := h.checkFrame_eq hfits
  obtain ⟨⟨honLine, hsending⟩, ⟨hlen, _, _⟩, _, _⟩ := h
  have hshort : ¬ maxPayload < f.payload.length := by
    rw [hlen]; exact Nat.not_lt.2 (FrameKind.le_maxPayload_of_lengthFits hfits)
  have hreceives : (s.le.station.onLine && !s.lc.sending) = true := by
    simp [(StationState.onLine_iff _).2 honLine, hsending]
  have hline : (({ s with lc := s.lc.noteCharacter s.now } : State).withAssembly []).line = s.line := rfl
  simp only [State.frameStep, hreceives, if_true, State.arrive, hshort, if_false, State.wholeFrame, hline, hcheck,
    State.heardFrame_lightAct hsending]

/-! ### TRIM at the demand calculator (R55 to R58) -/

/-- A TRIM is refused exactly without permission of the record or under the lock-down (R55). -/
theorem State.trimRefused_iff (s : State) : s.trimRefused = true ↔ s.cfg.trimPermitted = false ∨ s.dc.lockDown = true := by
  simp [State.trimRefused]

/-- A TRIM that is not refused is applied, clamped, and its lock field sets the lock-down (R56, R57). -/
theorem State.takeTrim_of_permitted {s : State} (hreg : s.le.station.regulates = true) (hperm : s.cfg.trimPermitted = true)
    (hlock : s.dc.lockDown = false) (r : RawFrame) :
    s.takeTrim r = { s with dc := { s.dc with
      pendingTrim := some (max 800 (min (fieldAt r.payload 0) 1200)),
      lockDown := decide (byteAt r.payload 2 ≠ 0) } } := by
  have happlied : s.trimRefused = false := by simp [State.trimRefused, hperm, hlock]
  have hengaged : (s.dc.lockDown || byteAt r.payload 2 != 0) = decide (byteAt r.payload 2 ≠ 0) :=
    Bool.eq_iff_iff.2 (by simp [hlock])
  simp only [State.takeTrim, hreg, happlied, readTrim, hengaged, clampTo, trimMin, trimMax, if_true, Bool.false_eq_true, if_false]

/-- A refused TRIM raises TRIM_REFUSED and does nothing else (R55). -/
theorem State.takeTrim_of_refused {s : State} (hreg : s.le.station.regulates = true) (href : s.trimRefused = true) (r : RawFrame) :
    s.takeTrim r = s.raiseIf true .trimRefused := by
  simp only [State.takeTrim, hreg, href, if_true]

/-- Outside LISTENING and RUNNING, as in FALLBACK, a TRIM is ignored (R58). -/
theorem State.takeTrim_of_not_regulates {s : State} (h : s.le.station.regulates = false) (r : RawFrame) : s.takeTrim r = s := by
  simp only [State.takeTrim, h, Bool.false_eq_true, if_false]

/-- A TRIM that the station takes reaches its demand calculator. -/
theorem State.Takes.exec_trimFrame {s : State} {f : Frame} (h : s.Takes .trim 3 f) :
    exec (.trimFrame f) s = .next (s.afterFrame.takeTrim (rawOfFrame .trim f)) :=
  congrArg Host.Outcome.next (h.frameStep_eq rfl)

/-- Settles O29: a TRIM taken is the demand calculator's `takeTrim` after the line controller has noted the frame, and that has one
lemma per case. -/
theorem trimAppliedOrRefused : Obligations.TrimAppliedOrRefused := by
  intro s f htakes
  rw [htakes.exec_trimFrame]
  refine ⟨fun hreg hperm hlock => ?applied, fun hreg href => ?refused, fun hfallback => ?ignored⟩
  case applied =>
    exact congrArg _ (State.takeTrim_of_permitted (s := s.afterFrame) hreg hperm hlock _)
  case refused =>
    have hrefused : s.afterFrame.trimRefused = true := (State.trimRefused_iff _).2 href
    rw [State.takeTrim_of_refused (s := s.afterFrame) hreg hrefused]
    exact ⟨_, rfl, rfl, FaultRecord.raiseIf_mask _ _ _, rfl⟩
  case ignored =>
    have hreg : s.le.station.regulates = false := by rw [hfallback]; rfl
    exact congrArg _ (State.takeTrim_of_not_regulates (s := s.afterFrame) hreg _)

end Sys2Proof.Machine
end

section
/-! PROOF. The station ratio read off a usable profile (R60 to R62), and the neighbour floor (R67, R68). -/

namespace Sys2Proof.Machine

/-! ### A usable profile as a chain of breakpoints (R60) -/

/-- `c` may come next after `b` in a profile: further out, at most at 2000 m, with a ratio no greater (R60). -/
def Breakpoint.Precedes (b c : Breakpoint) : Prop := b.distance < c.distance ∧ c.distance ≤ 2000 ∧ c.ratio ≤ b.ratio

/-- The check of R60 on neighbouring breakpoints asks for a chain of `Precedes`. -/
theorem profileDescends_iff_isChain (profile : List Breakpoint) :
    profileDescends profile = true ↔ profile.IsChain Breakpoint.Precedes := by
  induction profile with
  | nil => simp [profileDescends]
  | cons b tail ih => cases tail with
    | nil => simp [profileDescends]
    | cons c rest => simp [profileDescends, Breakpoint.Precedes, ih, and_assoc]

/-- A usable profile is a chain of `Precedes`. -/
theorem isChain_precedes_of_profileUsable {profile : List Breakpoint} (h : profileUsable profile = true) :
    profile.IsChain Breakpoint.Precedes := by
  simp only [profileUsable, Bool.and_eq_true] at h
  obtain ⟨_, hdescends⟩ := h
  exact (profileDescends_iff_isChain profile).1 hdescends

/-- Along a chain the distances grow between any two breakpoints, not only between consecutive ones. -/
theorem pairwise_distance_lt_of_isChain {profile : List Breakpoint} (h : profile.IsChain Breakpoint.Precedes) :
    profile.Pairwise (fun b c => b.distance < c.distance) :=
  List.pairwise_map.1 ((List.isChain_map (R := (· < ·)) Breakpoint.distance).2 (h.imp fun _ _ hbc => hbc.1)).pairwise

/-! ### The station ratio, case by case (R61) -/

/-- At its first breakpoint a profile gives that breakpoint's ratio. -/
@[simp] theorem stationRatio_head (b : Breakpoint) (rest : List Breakpoint) : stationRatio (b :: rest) b.distance = b.ratio := by
  cases rest <;> simp [stationRatio]

/-- Strictly between the first two breakpoints the ratio lies on the line between them. -/
theorem stationRatio_between {b c : Breakpoint} (rest : List Breakpoint) {d : Nat} (hb : b.distance < d) (hc : d < c.distance) :
    stationRatio (b :: c :: rest) d = b.ratio - (b.ratio - c.ratio) * (d - b.distance) / (c.distance - b.distance) := by
  simp [stationRatio, Nat.not_le.2 hb, hc]

/-- From the second breakpoint outwards the first one is not read. -/
theorem stationRatio_cons_of_le {b c : Breakpoint} (rest : List Breakpoint) {d : Nat} (hbc : b.distance < c.distance)
    (hd : c.distance ≤ d) : stationRatio (b :: c :: rest) d = stationRatio (c :: rest) d := by
  simp [stationRatio, Nat.not_le.2 (hbc.trans_le hd), Nat.not_lt.2 hd]

/-- From a breakpoint outwards the breakpoints before it are not read. -/
theorem stationRatio_append_of_le {before rest : List Breakpoint} {b : Breakpoint} {d : Nat}
    (h : (before ++ b :: rest).Pairwise (fun x y => x.distance < y.distance)) (hd : b.distance ≤ d) :
    stationRatio (before ++ b :: rest) d = stationRatio (b :: rest) d := by
  induction before with
  | nil => rfl
  | cons a inner ih =>
    obtain ⟨hfirst, htail⟩ := List.pairwise_cons.1 h
    rw [← ih htail]
    cases inner with
    | nil => exact stationRatio_cons_of_le rest (hfirst b (by simp)) hd
    | cons a' inner' =>
      have hinner : a'.distance < b.distance := (List.pairwise_cons.1 htail).1 b (by simp)
      exact stationRatio_cons_of_le _ (hfirst a' (by simp)) (hinner.le.trans hd)

/-- At the distance of any of its breakpoints a usable profile gives that breakpoint's ratio. -/
theorem stationRatio_at_breakpoint {before rest : List Breakpoint} {b : Breakpoint}
    (h : (before ++ b :: rest).Pairwise (fun x y => x.distance < y.distance)) :
    stationRatio (before ++ b :: rest) b.distance = b.ratio := by
  rw [stationRatio_append_of_le h le_rfl, stationRatio_head]

/-! ### Interpolation rounds up (R62) -/

/-- The part of a drop that falls within its span is at most the whole drop. -/
theorem interpolated_le_drop {drop offset span : Nat} (h : offset ≤ span) : drop * offset / span ≤ drop :=
  Nat.div_le_of_le_mul (by
    rw [Nat.mul_comm span]
    exact Nat.mul_le_mul_left drop h)

/-- Taking a truncated quotient from `hi` is `hi - part / span` rounded up: no smaller than the exact value, and above it by
less than one. -/
theorem sub_div_rounds_up {hi part span : Nat} (hspan : 0 < span) (hpart : part / span ≤ hi) :
    hi * span ≤ (hi - part / span) * span + part ∧ (hi - part / span) * span + part < hi * span + span := by
  have hsplit : (hi - part / span) * span + part / span * span = hi * span := by
    rw [← Nat.add_mul, Nat.sub_add_cancel hpart]
  have hbelow : part / span * span ≤ part := Nat.div_mul_le_self part span
  have habove : part < part / span * span + span := Nat.lt_div_mul_add hspan
  omega

/-- Settles O28: from `b` outwards the breakpoints before it are not read, so every case is one of the head of the list, and the line
between `b` and `c` is a truncated quotient taken from `b`'s ratio. -/
theorem stationRatioInterpolates : Obligations.StationRatioInterpolates := by
  intro before after b c d husable
  have hchain := isChain_precedes_of_profileUsable husable
  have hsorted := pairwise_distance_lt_of_isChain hchain
  obtain ⟨hbc, _, hratio⟩ : b.Precedes c := (List.isChain_append_cons_cons.1 hchain).2.1
  have hsplit : before ++ b :: c :: after = (before ++ [b]) ++ c :: after := by simp
  refine ⟨stationRatio_at_breakpoint hsorted, ?atSecond, fun hb hc => ?between, fun hlast hd => ?beyond⟩
  case atSecond =>
    rw [hsplit] at hsorted ⊢
    exact stationRatio_at_breakpoint hsorted
  case between =>
    have hline := (stationRatio_append_of_le hsorted hb.le).trans (stationRatio_between after hb hc)
    have hdrop : (b.ratio - c.ratio) * (d - b.distance) / (c.distance - b.distance) ≤ b.ratio - c.ratio :=
      interpolated_le_drop (Nat.sub_le_sub_right hc.le b.distance)
    have hround := sub_div_rounds_up (Nat.sub_pos_of_lt hbc) (hdrop.trans (Nat.sub_le _ _))
    rw [hline]
    exact ⟨rfl, by omega, Nat.sub_le _ _, hround⟩
  case beyond =>
    subst hlast
    rw [hsplit] at hsorted ⊢
    rw [stationRatio_append_of_le hsorted hd.le, stationRatio]

/-! ### The floor of one entry (R67, R68) -/

/-- A neighbour's floor is ten times its delivered luminance over the step ratio, rounded up (R67). -/
theorem neighbourFloorOf_eq_ceilDiv (delivered stepRatio : Nat) :
    neighbourFloorOf delivered stepRatio = delivered * 10 ⌈/⌉ stepRatio := rfl

/-- The luminances that keep the step ratio are those from the neighbour's floor on (R67). -/
theorem neighbourFloorOf_le_iff {delivered stepRatio : Nat} (h : 1 ≤ stepRatio) (m : Nat) :
    neighbourFloorOf delivered stepRatio ≤ m ↔ delivered * 10 ≤ m * stepRatio := by
  rw [neighbourFloorOf_eq_ceilDiv, ceilDiv_le_iff_le_mul h, Nat.mul_comm stepRatio]

/-- A reserved entry whose level part is FRESH gives its neighbour's floor (R68). -/
theorem State.entryFloor_of_fresh {s : State} {e : Entry} {l : LevelPart} (hres : e.reserved = true) (hlevel : e.level = some l)
    (hfresh : s.levelFreshness l = .fresh) : s.entryFloor e = neighbourFloorOf l.delivered s.cfg.stepRatio := by
  simp [State.entryFloor, hres, hlevel, hfresh]

/-- An entry that is not reserved gives no floor (R68). -/
theorem State.entryFloor_of_not_reserved {s : State} {e : Entry} (h : e.reserved = false) : s.entryFloor e = 0 := by
  simp [State.entryFloor, h]

/-- An entry without a FRESH level part gives no floor (R68). -/
theorem State.entryFloor_of_not_fresh {s : State} {e : Entry} (h : ∀ l, e.level = some l → s.levelFreshness l ≠ .fresh) :
    s.entryFloor e = 0 := by
  cases hres : e.reserved with
  | false => exact State.entryFloor_of_not_reserved hres
  | true => cases hlevel : e.level with
    | none => simp [State.entryFloor, hres, hlevel]
    | some l => simp [State.entryFloor, hres, hlevel, h l hlevel]

/-! ### The largest of several luminances (R68, R73) -/

/-- Folding `max` from 0 gives the largest element, or 0. -/
theorem foldl_max_zero_spec (ls : List Nat) :
    (ls.foldl max 0 = 0 ∨ ls.foldl max 0 ∈ ls) ∧ ∀ l ∈ ls, l ≤ ls.foldl max 0 := by
  have hmax : (0 :: ls).max? = some (ls.foldl max 0) := List.max?_cons'
  obtain ⟨hmem, hle⟩ := List.max?_eq_some_iff.1 hmax
  exact ⟨List.mem_cons.1 hmem, fun l hl => hle l (List.mem_cons_of_mem 0 hl)⟩

/-- No entry's floor lies above the neighbour floor (R68). -/
theorem State.entryFloor_le_neighbourFloor (s : State) {e : Entry} (he : e ∈ s.pt.entries) : s.entryFloor e ≤ s.neighbourFloor :=
  (foldl_max_zero_spec _).2 _ (List.mem_map_of_mem he)

/-- The neighbour floor is 0 or the floor of one of the entries (R68). -/
theorem State.neighbourFloor_eq_zero_or_entryFloor (s : State) :
    s.neighbourFloor = 0 ∨ ∃ e ∈ s.pt.entries, s.entryFloor e = s.neighbourFloor :=
  (foldl_max_zero_spec _).1.imp_right List.mem_map.1

/-- Settles O27: an entry's floor is a quotient rounded up, and the neighbour floor the largest of them. -/
theorem neighbourFloorIsLowest : Obligations.NeighbourFloorIsLowest := by
  intro s hratio
  refine ⟨fun e l hres hlevel hfresh m => ?lowest, fun e hnone => ?none, fun e he => s.entryFloor_le_neighbourFloor he,
    s.neighbourFloor_eq_zero_or_entryFloor⟩
  case lowest =>
    rw [State.entryFloor_of_fresh hres hlevel hfresh, neighbourFloorOf_le_iff hratio]
  case none =>
    exact hnone.elim State.entryFloor_of_not_reserved State.entryFloor_of_not_fresh

end Sys2Proof.Machine
end

section
/-! PROOF. An OVERRIDE order at the override list: refreshed in place, admitted, admitted in a victim's stead, or refused (R101 to
R107), and the FULL that an admission begins (R85). -/

namespace Sys2Proof.Machine

/-! ### From the frame to the order (R103, R154, R167) -/

/-- The code of a kind names that kind (R167). -/
@[simp] theorem overrideOfCode_overrideCode (k : OverrideKind) : overrideOfCode (overrideCode k) = some k := by cases k <;> rfl

/-- An OVERRIDE that the station takes reaches its override list. -/
theorem State.Takes.exec_overrideFrame {s : State} {f : Frame} (h : s.Takes .override 5 f) :
    exec (.overrideFrame f) s = .next (s.afterFrame.takeOverride (rawOfFrame .override f)) :=
  congrArg Host.Outcome.next (h.frameStep_eq rfl)

/-- In LISTENING and RUNNING an OVERRIDE of a known kind, from a source other than 255 and with a duration, is an order (R103). -/
theorem State.takeOverride_order {s : State} {r : RawFrame} {kind : OverrideKind} (hreg : s.le.station.regulates = true)
    (hsrc : r.src ≠ 255) (hkind : byteAt r.payload 0 = overrideCode kind) (hdur : 1 ≤ fieldAt r.payload 3) :
    s.takeOverride r = s.takeOrder r.src kind (readOverride r.payload) := by
  have hread : (readOverride r.payload).kind = some kind := by simp [readOverride, hkind]
  have hduration : (readOverride r.payload).duration ≠ 0 := Nat.ne_of_gt hdur
  simp only [State.takeOverride, hreg, if_true, hsrc, if_false, hread, hduration]

/-- An order that the station takes is handed to `takeOrder`, after the line controller has noted the frame. -/
theorem State.Takes.exec_order {s : State} {f : Frame} {kind : OverrideKind} (h : s.Takes .override 5 f)
    (hreg : s.le.station.regulates = true) (hsrc : f.src ≠ 255) (hkind : byteAt f.payload 0 = overrideCode kind)
    (hdur : 1 ≤ fieldAt f.payload 3) :
    exec (.overrideFrame f) s = .next (s.afterFrame.takeOrder f.src kind (readOverride f.payload)) :=
  h.exec_overrideFrame.trans (congrArg _ (State.takeOverride_order (s := s.afterFrame) hreg hsrc hkind hdur))

/-! ### The four outcomes of an order (R104 to R107) -/

/-- An entry matches by source and kind alone (R104). -/
theorem OverrideEntry.matches_iff (x : OverrideEntry) (source : Byte) (kind : OverrideKind) :
    x.matches source kind = true ↔ x.source = source ∧ x.kind = kind := by
  simp [OverrideEntry.matches]

/-- Without a matching entry the list has nothing to refresh. -/
theorem any_matches_eq_false {es : List OverrideEntry} {source : Byte} {kind : OverrideKind}
    (h : ∀ x ∈ es, ¬(x.source = source ∧ x.kind = kind)) : (es.any fun x => x.matches source kind) = false :=
  List.any_eq_false.2 fun x hx hm => h x hx ((x.matches_iff source kind).1 hm)

/-- An order that matches an entry refreshes it in place, whatever the length of the list (R104). -/
theorem State.takeOrder_of_match {s : State} {source : Byte} {kind : OverrideKind}
    (h : ∃ x ∈ s.ol.entries, x.source = source ∧ x.kind = kind) (f : OverrideFields) :
    s.takeOrder source kind f = { s with ol := { s.ol with
      entries := s.ol.entries.map fun x =>
        if x.source = source ∧ x.kind = kind then overrideEntry source kind f s.now else x } } := by
  have hany : (s.ol.entries.any fun x => x.matches source kind) = true := by
    simpa only [List.any_eq_true, OverrideEntry.matches_iff] using h
  simp only [State.takeOrder, hany, if_true, OverrideEntry.matches_iff]

/-- An order that matches no entry joins the end of a list with room (R105). -/
theorem State.takeOrder_of_room {s : State} {source : Byte} {kind : OverrideKind}
    (h : ∀ x ∈ s.ol.entries, ¬(x.source = source ∧ x.kind = kind)) (hroom : s.ol.entries.length < 4) (f : OverrideFields) :
    s.takeOrder source kind f = s.admitOverride s.ol.entries (overrideEntry source kind f s.now) := by
  simp only [State.takeOrder, any_matches_eq_false h, listSize, hroom, Bool.false_eq_true, if_false, if_true]

/-- An order that matches no entry of a full list joins it in the stead of the victim (R106). -/
theorem State.takeOrder_of_victim {s : State} {source : Byte} {kind : OverrideKind} {v : OverrideEntry}
    (h : ∀ x ∈ s.ol.entries, ¬(x.source = source ∧ x.kind = kind)) (hfull : s.ol.entries.length = 4)
    (hvictim : s.ol.victimFor kind = some v) (f : OverrideFields) :
    s.takeOrder source kind f =
      s.admitOverride (s.ol.entries.filter fun x => !x.matches v.source v.kind) (overrideEntry source kind f s.now) := by
  have hnoRoom : ¬ s.ol.entries.length < listSize := by simp [hfull, listSize]
  simp only [State.takeOrder, any_matches_eq_false h, hnoRoom, hvictim, Bool.false_eq_true, if_false]

/-- An order that matches no entry of a full list without a victim is refused (R107). -/
theorem State.takeOrder_of_no_victim {s : State} {source : Byte} {kind : OverrideKind}
    (h : ∀ x ∈ s.ol.entries, ¬(x.source = source ∧ x.kind = kind)) (hfull : s.ol.entries.length = 4)
    (hvictim : s.ol.victimFor kind = none) (f : OverrideFields) :
    s.takeOrder source kind f = s.raiseIf true .overrideRefused := by
  have hnoRoom : ¬ s.ol.entries.length < listSize := by simp [hfull, listSize]
  simp only [State.takeOrder, any_matches_eq_false h, hnoRoom, hvictim, Bool.false_eq_true, if_false]

/-! ### An admission, and the FULL it may begin (R85, R105, R111) -/

/-- The list's own reading of an effective FULL is R111. -/
theorem State.fullEffective_iff (s : State) : s.ol.fullEffective = true ↔ s.FullInForce := by
  simp [OverrideList.fullEffective, OverrideList.holdsFull, State.FullInForce]

/-- In RUNNING an effective FULL begins: C and T are full, SUSPENDED is clear, and C is handed over (R85). -/
theorem State.beginFull_of_running {s : State} (h : s.le.station = .running) :
    s.beginFull =
      ({ s with le := { s.le with level := fullLevel, target := fullLevel, suspended := false } } : State).handOver fullLevel :=
  if_pos h

/-- Outside RUNNING the beginning of an effective FULL changes nothing (R85). -/
theorem State.beginFull_of_not_running {s : State} (h : s.le.station ≠ .running) : s.beginFull = s := if_neg h

/-- A level handed over is held, and the commands are computed from it; nothing else of a channel moves, and no flag but those of
the channel block is raised (R89, R123). -/
theorem State.handOver_computes (s : State) (level : Nat) :
    (s.handOver level).ch.held = some level ∧ (s.handOver level).OnlyRecomputed s ∧
      ((s.handOver level).ChannelsComputed fun k => (s.ch.get k).openTimer) ∧ (s.handOver level).RaisesOnly s channelFlags := by
  let held : State := { s with ch := { s.ch with held := some level } }
  exact ⟨rfl, held.computeCommands_onlyRecomputed, held.computeCommands_channelsComputed, held.computeCommands_raisesOnly⟩

/-- What an admission does: the entry joins the end of those kept, and a FULL that begins to be effective in RUNNING sets the output
to full at once; nothing else changes (R85, R105, R106). -/
theorem State.admitOverride_spec (s : State) (kept : List OverrideEntry) (e : OverrideEntry) :
    (s.admitOverride kept e).ol = { s.ol with entries := kept ++ [e] } ∧
      (if e.kind = .full ∧ ¬s.FullInForce ∧ s.le.station = .running then
        (s.admitOverride kept e).le = { s.le with level := 10000, target := 10000, suspended := false } ∧
          (s.admitOverride kept e).ch.held = some 10000 ∧ (s.admitOverride kept e).OnlyRecomputed s ∧
          ((s.admitOverride kept e).ChannelsComputed fun k => (s.ch.get k).openTimer) ∧
          (s.admitOverride kept e).RaisesOnly s channelFlags
      else (s.admitOverride kept e).le = s.le ∧ (s.admitOverride kept e).ch = s.ch ∧ (s.admitOverride kept e).fr = s.fr) ∧
      s.admitOverride kept e = { s with
        ol := (s.admitOverride kept e).ol, le := (s.admitOverride kept e).le, ch := (s.admitOverride kept e).ch,
        fr := (s.admitOverride kept e).fr } := by
  let joined : State := { s with ol := { s.ol with entries := kept ++ [e] } }
  have hadmit : s.admitOverride kept e = if e.kind = .full ∧ ¬s.FullInForce then joined.beginFull else joined := by
    simp only [State.admitOverride, ← s.fullEffective_iff, Bool.not_eq_true, joined]
  by_cases hbegins : e.kind = .full ∧ ¬s.FullInForce
  · by_cases hrun : s.le.station = .running
    · rw [hadmit, if_pos hbegins, if_pos ⟨hbegins.1, hbegins.2, hrun⟩, State.beginFull_of_running (s := joined) hrun]
      exact ⟨rfl, ⟨rfl, State.handOver_computes _ fullLevel⟩, rfl⟩
    · rw [hadmit, if_pos hbegins, if_neg fun h => hrun h.2.2, State.beginFull_of_not_running (s := joined) hrun]
      exact ⟨rfl, ⟨rfl, rfl, rfl⟩, rfl⟩
  · rw [hadmit, if_neg hbegins, if_neg fun h => hbegins ⟨h.1, h.2.1⟩]
    exact ⟨rfl, ⟨rfl, rfl, rfl⟩, rfl⟩

/-- Settles O36: an order taken is the override list's `takeOrder` after the line controller has noted the frame, which refreshes a
matching entry and otherwise admits the order to a list with room. -/
theorem orderRefreshesOrIsAdmitted : Obligations.OrderRefreshesOrIsAdmitted := by
  intro s f kind htakes hreg hsrc hkind hdur
  rw [htakes.exec_order hreg hsrc hkind hdur]
  refine ⟨fun hmatch => ?refreshed, fun hnone hroom => ?admitted⟩
  case refreshed =>
    exact congrArg _ (State.takeOrder_of_match (s := s.afterFrame) hmatch _)
  case admitted =>
    rw [State.takeOrder_of_room (s := s.afterFrame) hnone hroom]
    exact ⟨_, rfl, s.afterFrame.admitOverride_spec s.ol.entries _⟩

/-! ### The victim of a full list (R106) -/

/-- The rank by which entries give way, the least first: priority, then remaining time in seconds, then the second timer (R106). -/
def OverrideEntry.yieldRank (x : OverrideEntry) : Nat ×ₗ Nat ×ₗ Nat :=
  toLex (overridePriority x.kind, toLex (x.remaining, x.secondDue))

/-- An entry gives way before another exactly when its rank is lower (R106). -/
theorem yieldsBefore_iff (x y : OverrideEntry) : yieldsBefore x y = true ↔ x.yieldRank < y.yieldRank := by
  simp only [yieldsBefore, OverrideEntry.yieldRank, Prod.Lex.toLex_lt_toLex]
  split
  · next hprio => simp [hprio]
  · next hprio =>
    rw [not_not.1 hprio]
    split
    · next hrem => simp [hrem]
    · next hrem => simp [not_not.1 hrem]

/-- A lower rank, or an equal one at an earlier place (`tie`), spelt out level by level (R106). -/
theorem yieldRank_lt_or_eq_iff (v w : OverrideEntry) (tie : Prop) :
    (v.yieldRank < w.yieldRank ∨ v.yieldRank = w.yieldRank ∧ tie) ↔
      overridePriority v.kind < overridePriority w.kind ∨ overridePriority v.kind = overridePriority w.kind ∧
        (v.remaining < w.remaining ∨ v.remaining = w.remaining ∧
          (v.secondDue < w.secondDue ∨ v.secondDue = w.secondDue ∧ tie)) := by
  simp only [OverrideEntry.yieldRank, Prod.Lex.toLex_lt_toLex, EmbeddingLike.apply_eq_iff_eq, Prod.mk.injEq]
  tauto

/-- The victim is the first candidate of least rank: those before it rank higher, those after it no lower (R106). -/
theorem chooseOverrideVictim_split {v : OverrideEntry} : ∀ {es : List OverrideEntry}, chooseOverrideVictim es = some v →
    ∃ before after, es = before ++ v :: after ∧ (∀ w ∈ before, v.yieldRank < w.yieldRank) ∧
      ∀ w ∈ after, v.yieldRank ≤ w.yieldRank
  | [], h => by simp [chooseOverrideVictim] at h
  | e :: rest, h => by
    unfold chooseOverrideVictim at h
    split at h
    · next hnone =>
      obtain rfl : e = v := by simpa using h
      exact ⟨[], rest, rfl, by simp, by simp [chooseOverrideVictim_none.1 hnone]⟩
    · next u hu =>
      obtain ⟨before, after, rfl, hbefore, hafter⟩ := chooseOverrideVictim_split hu
      simp only [yieldsBefore_iff] at h
      split at h
      · next hlt =>
        obtain rfl : u = v := by simpa using h
        exact ⟨e :: before, after, rfl, List.forall_mem_cons.2 ⟨hlt, hbefore⟩, hafter⟩
      · next hge =>
        obtain rfl : e = v := by simpa using h
        have hle : e.yieldRank ≤ u.yieldRank := not_lt.1 hge
        refine ⟨[], _, rfl, by simp, List.forall_mem_append.2 ⟨fun w hw => hle.trans (hbefore w hw).le, ?_⟩⟩
        exact List.forall_mem_cons.2 ⟨hle, fun w hw => hle.trans (hafter w hw)⟩

/-- There is no victim exactly when every entry has a higher priority than the order (R107). -/
theorem OverrideList.victimFor_eq_none_iff (ol : OverrideList) (kind : OverrideKind) :
    ol.victimFor kind = none ↔ ∀ x ∈ ol.entries, overridePriority kind < overridePriority x.kind := by
  simp [OverrideList.victimFor, chooseOverrideVictim_none]

/-- Where the victim stands in the list, and its rank among the entries of no higher priority than the order (R106). -/
theorem OverrideList.victimFor_split {ol : OverrideList} {kind : OverrideKind} {v : OverrideEntry}
    (h : ol.victimFor kind = some v) :
    ∃ before after, ol.entries = before ++ v :: after ∧ overridePriority v.kind ≤ overridePriority kind ∧
      (∀ w ∈ before, overridePriority w.kind ≤ overridePriority kind → v.yieldRank < w.yieldRank) ∧
      ∀ w ∈ after, overridePriority w.kind ≤ overridePriority kind → v.yieldRank ≤ w.yieldRank := by
  obtain ⟨lower, upper, hsplit, hlower, hupper⟩ := chooseOverrideVictim_split h
  obtain ⟨before, rest, hentries, rfl, hrest⟩ := List.filter_eq_append_iff.1 hsplit
  obtain ⟨skipped, after, rfl, hskipped, hv, rfl⟩ := List.filter_eq_cons_iff.1 hrest
  refine ⟨before ++ skipped, after, by simp [hentries], by simpa using hv, fun w hw hprio => ?_, fun w hw hprio => ?_⟩
  · rcases List.mem_append.1 hw with hw | hw
    · exact hlower w (List.mem_filter.2 ⟨hw, decide_eq_true hprio⟩)
    · exact absurd (decide_eq_true hprio) (hskipped w hw)
  · exact hupper w (List.mem_filter.2 ⟨hw, decide_eq_true hprio⟩)

/-- Every place of a list but that of the entry between two parts lies in one of the parts. -/
theorem mem_before_or_after {α : Type} {before after : List α} {v w : α} {j : Nat} (hj : j ≠ before.length)
    (hw : (before ++ v :: after)[j]? = some w) : w ∈ before ∨ (before.length < j ∧ w ∈ after) := by
  rcases Nat.lt_or_gt_of_ne hj with hlt | hgt
  · rw [List.getElem?_append_left hlt] at hw
    exact .inl (List.mem_of_getElem? hw)
  · obtain ⟨m, rfl⟩ := Nat.exists_eq_add_of_lt hgt
    refine .inr ⟨hgt, List.mem_of_getElem? (i := m) ?_⟩
    rw [← hw, List.getElem?_append_right (by omega), show before.length + m + 1 - before.length = m + 1 by omega,
      List.getElem?_cons_succ]

/-- In a list whose sources and kinds are distinct, taking out what matches an entry takes out that entry alone (R101). -/
theorem filter_not_matches_eq {before after : List OverrideEntry} {v : OverrideEntry}
    (h : (before ++ v :: after).Pairwise fun x y => ¬(x.source = y.source ∧ x.kind = y.kind)) :
    (before ++ v :: after).filter (fun x => !x.matches v.source v.kind) = before ++ after := by
  obtain ⟨_, hafter, hbefore⟩ := List.pairwise_append.1 h
  have hkeep {x : OverrideEntry} (hx : ¬(x.source = v.source ∧ x.kind = v.kind)) : (!x.matches v.source v.kind) = true := by
    simpa only [Bool.not_eq_true', Bool.eq_false_iff, ne_eq, OverrideEntry.matches_iff] using hx
  have hself : (!v.matches v.source v.kind) = false := by simp [OverrideEntry.matches]
  rw [List.filter_append, List.filter_cons, hself, if_neg Bool.false_ne_true,
    List.filter_eq_self.2 fun x hx => hkeep (hbefore x hx v List.mem_cons_self),
    List.filter_eq_self.2 fun x hx => hkeep fun hm => (List.pairwise_cons.1 hafter).1 x hx ⟨hm.1.symm, hm.2.symm⟩]

/-- Settles O37: the victim stands between the entries before and after it, and leaving it out is what the filter by its source and
kind does; without a victim every priority is higher. -/
theorem orderAtFullList : Obligations.OrderAtFullList := by
  intro s f kind htakes hreg hsrc hkind hdur hnone hfull hsound
  rw [htakes.exec_order hreg hsrc hkind hdur]
  refine ⟨fun hhigher => ?refused, fun hlower => ?admitted⟩
  case refused =>
    have hvictim : s.ol.victimFor kind = none := (s.ol.victimFor_eq_none_iff kind).2 hhigher
    rw [State.takeOrder_of_no_victim (s := s.afterFrame) hnone hfull hvictim]
    exact ⟨_, rfl, rfl, FaultRecord.raiseIf_mask _ _ _, rfl⟩
  case admitted =>
    have hsome : s.ol.victimFor kind ≠ none := fun h => by
      obtain ⟨x, hx, hle⟩ := hlower
      exact absurd ((s.ol.victimFor_eq_none_iff kind).1 h x hx) (Nat.not_lt.2 hle)
    obtain ⟨v, hvictim⟩ := Option.ne_none_iff_exists'.1 hsome
    obtain ⟨before, after, hentries, hprio, hbefore, hafter⟩ := OverrideList.victimFor_split hvictim
    have hkept : s.ol.entries.filter (fun x => !x.matches v.source v.kind) = s.ol.entries.eraseIdx before.length := by
      obtain ⟨_, hdistinct, _⟩ := hsound
      rw [hentries] at hdistinct ⊢
      rw [filter_not_matches_eq hdistinct, List.eraseIdx_append_of_length_le (Nat.le_refl _), Nat.sub_self, List.eraseIdx_cons_zero]
    rw [State.takeOrder_of_victim (s := s.afterFrame) hnone hfull hvictim, hkept]
    refine ⟨_, before.length, v, rfl, by simp [hentries], hprio, fun j w hj hw hw_prio => ?first,
      s.afterFrame.admitOverride_spec _ _⟩
    case first =>
      rw [← yieldRank_lt_or_eq_iff]
      rw [hentries] at hw
      rcases mem_before_or_after hj hw with hmem | ⟨hlt, hmem⟩
      · exact .inl (hbefore w hmem hw_prio)
      · exact (hafter w hmem hw_prio).lt_or_eq.imp_right fun heq => ⟨heq, hlt⟩

end Sys2Proof.Machine
end

section
/-! PROOF. What a command can do, said once: the outcomes of `exec`, one case for each way a command can end, from which every statement
about all commands is read off (O1, O2 here; the invariants below). -/

namespace Sys2Proof.Machine

/-! ### The checks of a whole frame, read backwards (R151 to R153) -/

/-- What an accepted frame has passed (R151 to R153). -/
theorem checkFrame_accepted {p : LineParams} {r : RawFrame} {k : FrameKind} (h : checkFrame p r = .accepted k) :
    r.src ≠ 0 ∧ FrameKind.ofCode r.kind = some k ∧ k.lengthFits r.len = true ∧ r.src ≠ p.address := by
  unfold checkFrame at h
  split at h
  · cases h
  split at h
  · cases h
  next hsrc =>
  split at h
  · cases h
  next kind hkind =>
  split at h
  · cases h
  next hlen =>
  split at h
  · cases h
  next hother =>
  split at h
  · cases h
    exact ⟨hsrc, hkind, by simpa using hlen, hother⟩
  · cases h

/-- Only its own code names a kind. -/
theorem FrameKind.eq_code_of_ofCode {b : Byte} {k : FrameKind} (h : FrameKind.ofCode b = some k) : b = k.code := by
  unfold FrameKind.ofCode at h
  repeat' split at h
  all_goals first
    | (cases h; assumption)
    | cases h

/-! ### Hearing (R150, R158) -/

/-- What hearing characters leaves of the line controller: the slots, the parameters and the other counters as they were, at most
one CRC error more, and an assembly shorter than the longest frame (R147, R150). -/
structure LineControl.HeardFrom (lc old : LineControl) : Prop where
  slots : lc.slots = old.slots
  params : lc.params = old.params
  lineResets : lc.lineResets = old.lineResets
  collisionDrops : lc.collisionDrops = old.collisionDrops
  crcErrors : lc.crcErrors = old.crcErrors ∨ lc.crcErrors = min (old.crcErrors + 1) 65535
  assembly : lc.assembly.length < 55

/-- A whole frame of kind `k` that a command can bring: the one it carries, or the one its character completes (log 7). -/
def FrameOf (c : Instr) (s : State) (k : FrameKind) (r : RawFrame) : Prop :=
  (∃ f, c = frameCommand k f ∧ r = rawOfFrame k f) ∨
    ∃ ch, c = .characterReceived ch ∧ r = rawOfAssembly (s.lc.assembly ++ [ch.data])

/-- The line controller once a character has been noted, with nothing or little assembled. -/
theorem LineControl.noteCharacter_heardFrom (lc : LineControl) (now : Time) {bytes : List Byte} (h : bytes.length < 55) :
    ({ lc.noteCharacter now with assembly := bytes } : LineControl).HeardFrom lc :=
  ⟨rfl, rfl, rfl, rfl, .inl rfl, h⟩

/-! ### Resets as the reset tables give them (R174, R175) -/

/-- A reset of every block gives the values of the reset tables. -/
theorem State.blocksAtReset_eq (s : State) (lockDown : Bool) (n m e : Nat) :
    s.blocksAtReset lockDown n m e = s.atResetValues lockDown n m e false := rfl

/-- A reset of every block that ends gives them with the timers and the read started. -/
theorem State.startFromReset_eq (s : State) (lockDown : Bool) (n m e : Nat) :
    (s.blocksAtReset lockDown n m e).startFromReset = s.atResetValues lockDown n m e true := rfl

/-- A RESET taken after characters that left the counters alone (R156, R175). -/
theorem State.takeReset_eq {s : State} {lc : LineControl} (hresets : lc.lineResets = s.lc.lineResets)
    (hdrops : lc.collisionDrops = s.lc.collisionDrops) (hcrc : lc.crcErrors = s.lc.crcErrors) :
    ({ s with lc := lc } : State).takeReset =
      s.atResetValues s.dc.lockDown (min (s.lc.lineResets + 1) 255) s.lc.collisionDrops s.lc.crcErrors true := by
  rw [← hresets, ← hdrops, ← hcrc]
  rfl

/-- Hearing leaves the address, the mask and the rate in use. -/
theorem State.line_of_heardFrom {s : State} {lc : LineControl} (h : lc.HeardFrom s.lc) : ({ s with lc := lc } : State).line = s.line := by
  simp only [State.line, h.params]

/-! ### The outcomes of a command -/

/-- The moves of the part outside its resets and the completion of the read: `Move s c t` where `c` can so bring `s` to `t`. -/
inductive Move (s : State) : Instr → State → Prop where
  | ignored (c : Instr) : Move s c s
  | rstnFollowed : Move s .rstnRelease { s with rstnLow := false }
  | sampled {count : BitVec 12} {due : Time} (hdue : s.pfe.sampleTimer = some due) :
      Move s (.sampleInstant count) ((s.elapseTo due).sampleInstant count.toNat)
  | phinLeaves : Move s .phinLeavesBand { s with phinInBand := false }
  | faultBegins (hon : s.pfeOn = true) (habsent : s.pfe.sensorFault = false) :
      Move s .phinLeavesBand ({ s with phinInBand := false } : State).beginSensorFault
  | recoveryStops (hon : s.pfeOn = true) :
      Move s .phinLeavesBand { s with phinInBand := false, pfe := { s.pfe with recoveryTimer := none } }
  | phinReturns : Move s .phinReturnsToBand { s with phinInBand := true }
  | recoveryStarts (hon : s.pfeOn = true) :
      Move s .phinReturnsToBand
        { s with phinInBand := true, pfe := { s.pfe with recoveryTimer := some (s.now + recoveryTime) } }
  | recovered {due : Time} (hdue : s.pfe.recoveryTimer = some due) :
      Move s .recoveryTimerExpiry
        { s.elapseTo due with pfe := { s.pfe with sensorFault := false, recoveryTimer := none } }
  | portalReported {due : Time} (hdue : s.pfe.reportTimer = some due) :
      Move s .portalReportTimerExpiry (s.elapseTo due).portalReport
  | levelUpdated {due : Time} (hdue : s.le.updateTimer = some due) :
      Move s .levelUpdate
        ({ s.elapseTo due with le := { s.le with updateTimer := some (max s.now due + updatePeriod) } } : State).levelUpdate
  | entersRunning {due : Time} (hdue : s.le.listeningTimer = some due) (hst : s.le.station = .listening) :
      Move s .listeningTimerExpiry (s.elapseTo due).enterRunning
  | partAged {c : Instr} (addr : Byte) (part : PartKind) (f : Freshness) (at' : Time) :
      Move s c ((s.elapseTo at').changeEntry addr (·.agePart part f))
  | neighbourAged {c : Instr} (addr : Byte) (part : PartKind) (f : Freshness) (at' : Time) :
      Move s c ((s.elapseTo at').changeEntry addr (·.agePart part f)).examineNeighbours
  | entryAged {c : Instr} (addr : Byte) (at' : Time) :
      Move s c ((s.elapseTo at').changeEntry addr fun x => { x with agedOut := true })
  | secondPassed {source : Byte} {kind : OverrideKind} (due : Time) :
      Move s (.overrideSecondTimerExpiry source kind)
        { s.elapseTo due with ol := { s.ol with
          entries := s.ol.entries.filterMap fun x => if x.matches source kind then x.secondPassed (max s.now due) else some x } }
  | fullinMoves {closed : Bool} : Move s (.fullinPinChange closed) { s with fullinClosed := closed }
  | fullinCompared {closed : Bool} (timer : Option Time) :
      Move s (.fullinPinChange closed) { s with fullinClosed := closed, ol := { s.ol with debounceTimer := timer } }
  | debounceEnds {due : Time} (hdue : s.ol.debounceTimer = some due) :
      Move s .fullinDebounceExpiry { s.elapseTo due with ol := { s.ol with debounceTimer := none } }
  | contactCloses {due : Time} (hdue : s.ol.debounceTimer = some due) :
      Move s .fullinDebounceExpiry
        ({ s.elapseTo due with ol := { s.ol with debounceTimer := none } } : State).contactCloses
  | contactOpens {due : Time} (hdue : s.ol.debounceTimer = some due) :
      Move s .fullinDebounceExpiry
        ({ s.elapseTo due with ol := { s.ol with debounceTimer := none } } : State).contactOpens
  | propagated {due : Time} (hdue : s.ol.propagationTimer = some due) :
      Move s .propagationTimerExpiry
        (({ s.elapseTo due with ol := { s.ol with propagationTimer := some (max s.now due + propagationPeriod) } } : State).placeOverride 10)
  | propagationEnds {due : Time} (hdue : s.ol.propagationTimer = some due) :
      Move s .propagationTimerExpiry { s.elapseTo due with ol := { s.ol with propagationTimer := none } }
  | periodStarts {due : Time} (hdue : s.ch.pwmTimer = some due) :
      Move s .pwmPeriodStart { s.elapseTo due with
        ch := { s.ch.map (fun _ c => c.periodStart (max s.now due)) with pwmTimer := some (max s.now due + pwmPeriod) } }
  | tripped {k : ChannelId} (due : Time) (hdriving : (s.ch.get k).state = .driving) :
      Move s (.overcurrentTrip k) ((s.elapseTo due).trip k)
  | retried {k : ChannelId} {due : Time} (hdue : (s.ch.get k).retryTimer = some due) (hwait : (s.ch.get k).state = .retryWait) :
      Move s (.retryTimerExpiry k) ((s.elapseTo due).setChannel k (s.ch.get k).returned).computeCommands
  | tripForgotten {k : ChannelId} {taken : Time} {rest : List Time} (hhist : (s.ch.get k).history = taken :: rest) :
      Move s (.tripTimeExpiry k) ((s.elapseTo (taken + tripMemory)).setChannel k { s.ch.get k with history := rest })
  | foundOpen {k : ChannelId} {due : Time} (hdue : (s.ch.get k).openTimer = some due) :
      Move s (.openTimerExpiry k)
        ((s.elapseTo due).setChannel k { s.ch.get k with openMark := true, openTimer := none }).computeCommands
  | currentSensed {k : ChannelId} (hdriving : (s.ch.get k).state = .driving) : Move s (.loadCurrentPulse k) (s.loadCurrent k)
  | lineIdles (at' : Time) (now : Time) :
      Move s .lineIdle
        { s.elapseTo at' with lc := ({ s.lc with idle := true, assembly := [] } : LineControl).startAttempt s.line now }
  | sendingStarts {a : Attempt} (at' now : Time) (ha : s.lc.attempt = some a) :
      Move s .accessWaitExpiry { s.elapseTo at' with lc := s.lc.startSending a now }
  | contentSent {a : Attempt} {start : Time} {sent : Nat} (at' : Time) (ha : s.lc.attempt = some a)
      (hphase : a.phase = .sending start sent) : Move s .contentSent ((s.elapseTo at').finishSending a)
  | collided {a : Attempt} {start : Time} {sent : Nat} (at' : Time) (ha : s.lc.attempt = some a)
      (hphase : a.phase = .sending start sent) : Move s .collision ((s.elapseTo at').collide a)
  | guardEnds (due : Time) : Move s .turnaroundGuardExpiry { s.elapseTo due with lc := { s.lc with guardTimer := none } }
  | actChanges (due : Time) (act : Act) : Move s .actTimerExpiry { s.elapseTo due with lc := { s.lc with act := act } }
  | readBack {a : Attempt} {start : Time} {sent : Nat} {ch : LineChar} (ha : s.lc.attempt = some a)
      (hphase : a.phase = .sending start sent) : Move s (.characterReceived ch) (s.readBackCharacter a start sent ch)
  | noise {c : Instr} {lc : LineControl} (hheard : lc.HeardFrom s.lc) : Move s c { s with lc := lc }
  | ownSource {c : Instr} {lc : LineControl} (hheard : lc.HeardFrom s.lc) :
      Move s c (({ s with lc := lc } : State).raiseIf true .addressConflict)
  | accepted {c : Instr} {lc : LineControl} {k : FrameKind} {r : RawFrame} (hheard : lc.HeardFrom s.lc) (hk : k ≠ .reset)
      (hfrom : FrameOf c s k r) (hcheck : checkFrame s.line r = .accepted k) : Move s c (({ s with lc := lc } : State).dispatch k r)

/-- The outcomes of a command: a move, the completion of the read, a power-on reset by the supply or by RSTN (`started`: it ends at
once), or the line reset of a RESET. -/
inductive Effect (s : State) (c : Instr) : State → Prop where
  | move {t : State} (h : Move s c t) : Effect s c t
  | configured {image : List Byte} {due : Time} (hc : c = .configReadComplete image) (hdue : s.cl.readDue = some due)
      (hst : s.le.station = .configuring) : Effect s c ((s.elapseTo due).configComplete (recordImage image))
  | powerOnReset {u : State} {started : Bool} (hc : c = .powerUp ∨ c = .rstnAssert ∨ c = .rstnRelease ∨ c = .powerLoss)
      (hnow : u.now = s.now) (hpending : u.pending = s.pending) : Effect s c (u.atResetValues false 0 0 0 started)
  | lineReset {r : RawFrame} (hfrom : FrameOf c s .reset r) :
      Effect s c
        (s.atResetValues s.dc.lockDown (min (s.lc.lineResets + 1) 255) s.lc.collisionDrops s.lc.crcErrors true)

/-- A whole frame heard is noise, a frame from the own address, or an accepted one. -/
theorem Effect.of_wholeFrame {s : State} {c : Instr} {lc : LineControl} {r : RawFrame} (hlc : lc.HeardFrom s.lc)
    (hcrc : lc.crcErrors = s.lc.crcErrors) (hfrom : ∀ k, checkFrame s.line r = .accepted k → FrameOf c s k r) :
    Effect s c (({ s with lc := lc } : State).wholeFrame r) := by
  have hlit : ({ lc with act := lc.act.lightened s.now } : LineControl).HeardFrom s.lc := { hlc with }
  unfold State.wholeFrame
  rw [State.line_of_heardFrom hlc]
  split
  · exact .move (.noise { hlc with crcErrors := .inr (by simp [hcrc]) })
  · exact .move (.noise hlc)
  · exact .move (.ownSource hlit)
  · exact .move (.noise hlit)
  · next k hcheck =>
    by_cases hk : k = .reset
    · subst hk
      have hreset := State.takeReset_eq (s := s) (lc := { lc with act := lc.act.lightened s.now }) hlc.lineResets hlc.collisionDrops hcrc
      exact (congrArg (Effect s c) hreset).mpr (.lineReset (hfrom _ hcheck))
    · exact .move (.accepted hlit hk (hfrom k hcheck) hcheck)

/-- A frame command that is heard. -/
theorem Effect.of_frameStep (s : State) (k : FrameKind) (f : Frame) : Effect s (frameCommand k f) (s.frameStep k f) := by
  unfold State.frameStep
  split
  · unfold State.arrive
    have hheard := s.lc.noteCharacter_heardFrom s.now (bytes := []) (by simp)
    split
    · unfold State.abandonOverlong
      split
      · exact .move (.noise { hheard with crcErrors := .inr rfl })
      · exact .move (.noise hheard)
    · refine .of_wholeFrame hheard rfl fun k' hk' => .inl ⟨f, ?_, ?_⟩ <;>
        (obtain ⟨-, hkind, -, -⟩ := checkFrame_accepted hk'
         have hsame : k = k' := by simpa [rawOfFrame] using hkind
         rw [hsame])
  · exact .move (.ignored _)

/-- A character taken while the station is not sending. -/
theorem Effect.of_takeCharacter (s : State) (ch : LineChar) : Effect s (.characterReceived ch) (s.takeCharacter ch) := by
  have hheard {bytes : List Byte} (h : bytes.length < 55) := s.lc.noteCharacter_heardFrom s.now h
  unfold State.takeCharacter
  split
  · exact .move (.noise (hheard (by simp)))
  split
  · next hempty =>
    have : s.lc.assembly = [] := by simpa using hempty
    exact .move (.noise ⟨rfl, rfl, rfl, rfl, .inl rfl, by simp [LineControl.noteCharacter, this]⟩)
  unfold State.assembled
  split
  · next hshort => exact .move (.noise (hheard (hshort.trans (by decide))))
  split
  · unfold State.abandonOverlong
    split
    · exact .move (.noise { hheard (bytes := []) (by simp) with crcErrors := .inr rfl })
    · exact .move (.noise (hheard (by simp)))
  split
  · next hlen hshort =>
    have : maxPayload = 48 := rfl
    exact .move (.noise (hheard (by omega)))
  · exact .of_wholeFrame (hheard (by simp)) rfl fun _ _ => .inr ⟨ch, rfl, rfl⟩

/-- Every command ends in one of its outcomes. -/
theorem exec_effect (c : Instr) (s : State) : ∃ t, exec c s = .next t ∧ Effect s c t := by
  cases c with
  | powerUp =>
    refine ⟨_, rfl, ?_⟩
    unfold State.supplyRises
    split
    · exact .powerOnReset (u := { s with powered := true }) (started := false) (.inl rfl) rfl rfl
    · exact .powerOnReset (u := { s with powered := true }) (started := true) (.inl rfl) rfl rfl
  | rstnAssert => exact ⟨_, rfl, .powerOnReset (u := { s with rstnLow := true }) (started := false) (.inr (.inl rfl)) rfl rfl⟩
  | rstnRelease =>
    refine ⟨_, rfl, ?_⟩
    unfold State.rstnRises
    split
    · dsimp only
      split
      · exact .powerOnReset (u := { s with rstnLow := false }) (started := true) (.inr (.inr (.inl rfl))) rfl rfl
      · exact .move .rstnFollowed
    · exact .move (.ignored _)
  | powerLoss =>
    exact ⟨_, rfl, .powerOnReset (u := { s with powered := false }) (started := false) (.inr (.inr (.inr rfl))) rfl rfl⟩
  | configReadComplete image =>
    simp only [exec, execConfigReadComplete]
    split
    · next due hdue =>
      split
      · next hst => exact ⟨_, rfl, .configured rfl hdue hst⟩
      · exact ⟨_, rfl, .move (.ignored _)⟩
    · exact ⟨_, rfl, .move (.ignored _)⟩
  | sampleInstant count =>
    simp only [exec, execSampleInstant]
    split
    · next due hdue => exact ⟨_, rfl, .move (.sampled hdue)⟩
    · exact ⟨_, rfl, .move (.ignored _)⟩
  | phinLeavesBand =>
    simp only [exec, execPhinLeavesBand]
    split
    · next hon =>
      split
      · exact ⟨_, rfl, .move (.recoveryStops hon)⟩
      · next habsent => exact ⟨_, rfl, .move (.faultBegins hon (by simpa using habsent))⟩
    · exact ⟨_, rfl, .move .phinLeaves⟩
  | phinReturnsToBand =>
    simp only [exec, execPhinReturnsToBand]
    split
    · exact ⟨_, rfl, .move (.ignored _)⟩
    split
    · next hboth => exact ⟨_, rfl, .move (.recoveryStarts (Bool.and_eq_true _ _ ▸ hboth).1)⟩
    · exact ⟨_, rfl, .move .phinReturns⟩
  | recoveryTimerExpiry =>
    simp only [exec, execRecoveryTimerExpiry]
    split
    · next due hdue => exact ⟨_, rfl, .move (.recovered hdue)⟩
    · exact ⟨_, rfl, .move (.ignored _)⟩
  | portalReportTimerExpiry =>
    simp only [exec, execPortalReportTimerExpiry]
    split
    · next due hdue => exact ⟨_, rfl, .move (.portalReported hdue)⟩
    · exact ⟨_, rfl, .move (.ignored _)⟩
  | levelUpdate =>
    simp only [exec, execLevelUpdate]
    split
    · next due hdue => exact ⟨_, rfl, .move (.levelUpdated hdue)⟩
    · exact ⟨_, rfl, .move (.ignored _)⟩
  | listeningTimerExpiry =>
    simp only [exec, execListeningTimerExpiry]
    split
    · next due hdue =>
      split
      · next hst => exact ⟨_, rfl, .move (.entersRunning hdue hst)⟩
      · exact ⟨_, rfl, .move (.ignored _)⟩
    · exact ⟨_, rfl, .move (.ignored _)⟩
  | partStale addr part =>
    simp only [exec, execPartStale]
    split
    · split
      · split
        · exact ⟨_, rfl, .move (.neighbourAged addr part .stale _)⟩
        · exact ⟨_, rfl, .move (.partAged addr part .stale _)⟩
      · exact ⟨_, rfl, .move (.ignored _)⟩
    · exact ⟨_, rfl, .move (.ignored _)⟩
  | partLost addr part =>
    simp only [exec, execPartLost]
    split
    · split
      · exact ⟨_, rfl, .move (.partAged addr part .lost _)⟩
      · exact ⟨_, rfl, .move (.ignored _)⟩
    · exact ⟨_, rfl, .move (.ignored _)⟩
  | entryLost addr =>
    simp only [exec, execEntryLost]
    split
    · split
      · exact ⟨_, rfl, .move (.entryAged addr _)⟩
      · exact ⟨_, rfl, .move (.ignored _)⟩
    · exact ⟨_, rfl, .move (.ignored _)⟩
  | characterReceived ch =>
    simp only [exec, execCharacterReceived]
    split
    · split
      · next a ha =>
        split
        · next start sent hphase => exact ⟨_, rfl, .move (.readBack ha hphase)⟩
        · exact ⟨_, rfl, .of_takeCharacter s ch⟩
      · exact ⟨_, rfl, .of_takeCharacter s ch⟩
    · exact ⟨_, rfl, .move (.ignored _)⟩
  | levelFrame f => exact ⟨_, rfl, .of_frameStep s .level f⟩
  | portalFrame f => exact ⟨_, rfl, .of_frameStep s .portal f⟩
  | identFrame f => exact ⟨_, rfl, .of_frameStep s .ident f⟩
  | overrideFrame f => exact ⟨_, rfl, .of_frameStep s .override f⟩
  | trimFrame f => exact ⟨_, rfl, .of_frameStep s .trim f⟩
  | clearFrame f => exact ⟨_, rfl, .of_frameStep s .clear f⟩
  | identReqFrame f => exact ⟨_, rfl, .of_frameStep s .identReq f⟩
  | resetFrame f => exact ⟨_, rfl, .of_frameStep s .reset f⟩
  | overrideSecondTimerExpiry source kind =>
    simp only [exec, execOverrideSecondTimerExpiry]
    split
    · next e _ => exact ⟨_, rfl, .move (.secondPassed e.secondDue)⟩
    · exact ⟨_, rfl, .move (.ignored _)⟩
  | lineIdle =>
    simp only [exec, execLineIdle]
    split
    · exact ⟨_, rfl, .move (.lineIdles _ _)⟩
    · exact ⟨_, rfl, .move (.ignored _)⟩
  | accessWaitExpiry =>
    simp only [exec, execAccessWaitExpiry]
    split
    · next a ha =>
      split
      · exact ⟨_, rfl, .move (.sendingStarts _ _ ha)⟩
      · exact ⟨_, rfl, .move (.ignored _)⟩
    · exact ⟨_, rfl, .move (.ignored _)⟩
  | contentSent =>
    simp only [exec, execContentSent]
    split
    · next a ha =>
      split
      · next hphase => exact ⟨_, rfl, .move (.contentSent _ ha hphase)⟩
      · exact ⟨_, rfl, .move (.ignored _)⟩
    · exact ⟨_, rfl, .move (.ignored _)⟩
  | collision =>
    simp only [exec, execCollision]
    split
    · next a ha =>
      split
      · next hphase => exact ⟨_, rfl, .move (.collided _ ha hphase)⟩
      · exact ⟨_, rfl, .move (.ignored _)⟩
    · exact ⟨_, rfl, .move (.ignored _)⟩
  | turnaroundGuardExpiry =>
    simp only [exec, execTurnaroundGuardExpiry]
    split
    · exact ⟨_, rfl, .move (.guardEnds _)⟩
    · exact ⟨_, rfl, .move (.ignored _)⟩
  | actTimerExpiry =>
    simp only [exec, execActTimerExpiry]
    split
    · exact ⟨_, rfl, .move (.actChanges _ _)⟩
    · exact ⟨_, rfl, .move (.actChanges _ _)⟩
    · exact ⟨_, rfl, .move (.ignored _)⟩
  | fullinPinChange closed =>
    simp only [exec, execFullinPinChange]
    split
    · exact ⟨_, rfl, .move (.ignored _)⟩
    split
    · exact ⟨_, rfl, .move (.fullinCompared _)⟩
    · exact ⟨_, rfl, .move .fullinMoves⟩
  | fullinDebounceExpiry =>
    simp only [exec, execFullinDebounceExpiry]
    split
    · next due hdue =>
      split
      · exact ⟨_, rfl, .move (.debounceEnds hdue)⟩
      split
      · exact ⟨_, rfl, .move (.contactCloses hdue)⟩
      · exact ⟨_, rfl, .move (.contactOpens hdue)⟩
    · exact ⟨_, rfl, .move (.ignored _)⟩
  | propagationTimerExpiry =>
    simp only [exec, execPropagationTimerExpiry]
    split
    · next due hdue =>
      split
      · exact ⟨_, rfl, .move (.propagated hdue)⟩
      · exact ⟨_, rfl, .move (.propagationEnds hdue)⟩
    · exact ⟨_, rfl, .move (.ignored _)⟩
  | pwmPeriodStart =>
    simp only [exec, execPwmPeriodStart]
    split
    · next due hdue => exact ⟨_, rfl, .move (.periodStarts hdue)⟩
    · exact ⟨_, rfl, .move (.ignored _)⟩
  | overcurrentTrip k =>
    simp only [exec, execOvercurrentTrip]
    split
    · next hpossible =>
      simp only [State.tripPossible, Bool.and_eq_true, beq_iff_eq] at hpossible
      obtain ⟨⟨hdriving, -⟩, -⟩ := hpossible
      exact ⟨_, rfl, .move (.tripped _ hdriving)⟩
    · exact ⟨_, rfl, .move (.ignored _)⟩
  | retryTimerExpiry k =>
    simp only [exec, execRetryTimerExpiry]
    split
    · next due hdue =>
      split
      · next hwait => exact ⟨_, rfl, .move (.retried hdue hwait)⟩
      · exact ⟨_, rfl, .move (.ignored _)⟩
    · exact ⟨_, rfl, .move (.ignored _)⟩
  | tripTimeExpiry k =>
    simp only [exec, execTripTimeExpiry]
    split
    · next hhist => exact ⟨_, rfl, .move (.tripForgotten hhist)⟩
    · exact ⟨_, rfl, .move (.ignored _)⟩
  | openTimerExpiry k =>
    simp only [exec, execOpenTimerExpiry]
    split
    · next due hdue => exact ⟨_, rfl, .move (.foundOpen hdue)⟩
    · exact ⟨_, rfl, .move (.ignored _)⟩
  | loadCurrentPulse k =>
    simp only [exec, execLoadCurrentPulse]
    split
    · next hpulse =>
      simp only [State.inPulse, Bool.and_eq_true, beq_iff_eq] at hpulse
      obtain ⟨hdriving, -⟩ := hpulse
      exact ⟨_, rfl, .move (.currentSensed hdriving)⟩
    · exact ⟨_, rfl, .move (.ignored _)⟩

/-- What a command does is one of its outcomes. -/
theorem Effect.of_exec {c : Instr} {s t : State} (h : exec c s = .next t) : Effect s c t := by
  obtain ⟨u, hu, heffect⟩ := exec_effect c s
  rw [hu] at h
  cases h
  exact heffect

/-- A step runs the front command on the state with the queue's rest, or one unit of the clock passes. -/
theorem step_cases {s t : State} (h : step s = .next t) :
    (∃ c rest, s.pending = c :: rest ∧ exec c { s with pending := rest } = .next t) ∨ t = s.elapse idleTick := by
  unfold step at h
  split at h
  · next c rest hpending => exact .inl ⟨c, rest, hpending, h⟩
  · cases h; exact .inr rfl

/-- Settles O1: both clauses are the two arms of `step`. -/
theorem stepTakesQueueInOrder : Obligations.StepTakesQueueInOrder :=
  ⟨fun c rest s h => by simp only [step, h], fun s h => by
    unfold step
    split
    · simp_all
    · rfl⟩

/-! ### The queue and the clock (log 1, log 3) -/

/-- Sending the last character leaves the clock and the queue alone. -/
theorem State.readBackCharacter_now_le (s : State) (a : Attempt) (start : Time) (sent : Nat) (c : LineChar) :
    s.now ≤ (s.readBackCharacter a start sent c).now := by
  simp only [State.readBackCharacter]
  repeat' split
  all_goals simp

/-- No outcome touches the queue or turns the clock back. -/
theorem Effect.pending_now {c : Instr} {s t : State} (h : Effect s c t) : t.pending = s.pending ∧ s.now ≤ t.now := by
  cases h with
  | move h =>
    cases h with
    | readBack => exact ⟨by simp, s.readBackCharacter_now_le ..⟩
    | _ => simp
  | configured => simp
  | powerOnReset _ hnow hpending => exact ⟨hpending, hnow.ge⟩
  | lineReset => exact ⟨rfl, le_rfl⟩

/-- Settles O2: every command ends in one of its outcomes, and none touches the queue or turns the clock back. -/
theorem everyCommandCompletes : Obligations.EveryCommandCompletes := by
  intro c s
  obtain ⟨t, ht, heffect⟩ := exec_effect c s
  exact ⟨t, ht, heffect.pending_now⟩

end Sys2Proof.Machine
end

section
/-! PROOF. The level engine over every command: how the output level can move (R84 to R86, R100) and when the station state changes
(05 section 5.6). -/

namespace Sys2Proof.Machine

/-! ### What each operation does to the level engine -/

/-- The level engine as an effective FULL sets it in RUNNING (R85). -/
def LevelEngine.atFull (e : LevelEngine) : LevelEngine := { e with level := fullLevel, target := fullLevel, suspended := false }

/-- An effective FULL that begins leaves the level engine as it is, or sets it to full output (R85). -/
theorem State.beginFull_le (s : State) : s.beginFull.le = s.le ∨ s.beginFull.le = s.le.atFull := by
  unfold State.beginFull
  split
  · exact .inr rfl
  · exact .inl rfl

/-- An admission leaves the level engine as it is, or sets it to full output (R85, R105). -/
theorem State.admitOverride_le (s : State) (kept : List OverrideEntry) (e : OverrideEntry) :
    (s.admitOverride kept e).le = s.le ∨ (s.admitOverride kept e).le = s.le.atFull := by
  unfold State.admitOverride
  split
  · exact State.beginFull_le _
  · exact .inl rfl

/-- An OVERRIDE leaves the level engine as it is, or sets it to full output (R85, R103). -/
theorem State.takeOverride_le (s : State) (r : RawFrame) : (s.takeOverride r).le = s.le ∨ (s.takeOverride r).le = s.le.atFull := by
  unfold State.takeOverride
  split
  · split
    · exact .inl rfl
    split
    · exact .inl rfl
    split
    · exact .inl rfl
    unfold State.takeOrder
    split
    · exact .inl rfl
    split
    · exact s.admitOverride_le _ _
    split
    · exact s.admitOverride_le _ _
    · exact .inl rfl
  · exact .inl rfl

/-- The state once the contact has closed, and before a FULL is propagated (R113). -/
def State.contactActed (s : State) : State :=
  if s.ol.holdsFull then { s with ol := { s.ol with contactClosed := true } }
  else ({ s with ol := { s.ol with contactClosed := true } } : State).beginFull

/-- A closing contact acts, and propagates where propagation is on (R113, R114). -/
theorem State.contactCloses_eq (s : State) : s.contactCloses = if s.propagates then
    ({ s.contactActed with ol := { s.contactActed.ol with propagationTimer := some (s.now + propagationPeriod) } } : State).placeOverride 10
    else s.contactActed := rfl

/-- The closing contact leaves the level engine as it is, or sets it to full output (R85, R113). -/
theorem State.contactCloses_le (s : State) : s.contactCloses.le = s.le ∨ s.contactCloses.le = s.le.atFull := by
  have hacted : s.contactActed.le = s.le ∨ s.contactActed.le = s.le.atFull := by
    unfold State.contactActed
    split
    · exact .inl rfl
    · exact State.beginFull_le _
  rw [State.contactCloses_eq]
  split <;> exact hacted

/-- The level engine on entry to LISTENING (R91). -/
@[simp] theorem State.enterListening_le (s : State) (r : Record) (b : Bool) :
    (s.enterListening r b).le = { s.le with station := .listening, level := fullLevel, target := fullLevel,
                                            listeningTimer := some (s.now + ms (2 * r.staleTime)) } := by
  simp [State.enterListening]

/-- The level engine on entry to FALLBACK (R94). -/
@[simp] theorem State.enterFallback_le (s : State) (p : LineParams) (v : FallbackValues) (n : Nat) :
    (s.enterFallback p v n).le = { s.le with station := .fallback, level := fullLevel, target := fullLevel } := by
  simp [State.enterFallback]

/-- The level engine after the completion of the read stands at full output (R91, R94). -/
theorem State.configComplete_level (s : State) (p : List Byte) :
    (s.configComplete p).le.level = fullLevel ∧ (s.configComplete p).le.target = fullLevel := by
  unfold State.configComplete
  split <;> simp

/-- On entry to RUNNING the level engine changes its state and stops its LISTENING timer (R92). -/
@[simp] theorem State.enterRunning_le (s : State) :
    s.enterRunning.le = { s.le with station := .running, listeningTimer := none } := by
  simp [State.enterRunning]

/-- A character read back leaves the station, the level and the target alone. -/
theorem State.readBackCharacter_le (s : State) (a : Attempt) (start : Time) (sent : Nat) (c : LineChar) :
    (s.readBackCharacter a start sent c).le.level = s.le.level ∧ (s.readBackCharacter a start sent c).le.target = s.le.target ∧
      (s.readBackCharacter a start sent c).le.station = s.le.station := by
  unfold State.readBackCharacter
  dsimp only
  split
  · split
    · split
      · exact ⟨rfl, rfl, rfl⟩
      · exact State.finishSending_le _ _
    · simp
  · exact State.finishSending_le _ _

/-- A level update keeps the station state. -/
@[simp] theorem State.levelUpdate_station (s : State) : s.levelUpdate.le.station = s.le.station := by
  unfold State.levelUpdate
  split
  · rfl
  · next h => rw [State.updateListening, (State.report_le _ _).2.2, h]; simpa using h
  · next h =>
    rw [State.updateRunning, (State.report_le _ _).2.2, h]
    simp only [State.handOver_le, LevelEngine.regulated]
    repeat' split
    all_goals simpa using h
  · next h => rw [State.updateFallback, (State.report_le _ _).2.2, h]; simpa using h

/-- What RUNNING makes of the level: full, held, or one step of the slew (R84, R86, R87). -/
theorem LevelEngine.regulated_level (e : LevelEngine) (d : Demand) (full hold : Bool) (cfg : Record) :
    (e.regulated d full hold cfg).level = fullLevel ∨ (e.regulated d full hold cfg).level = e.level ∨
      (e.regulated d full hold cfg).level = slew cfg.riseLimit cfg.fallLimit e.level (d.required.getD 0) := by
  unfold LevelEngine.regulated
  dsimp only
  split
  · exact .inl rfl
  split
  · exact .inr (.inl rfl)
  · exact .inr (.inr rfl)

/-- What a level update makes of the level: full, held, or one step of the slew toward a required level (R82 to R87). -/
theorem State.levelUpdate_level (s : State) :
    s.levelUpdate.le.level = fullLevel ∨ s.levelUpdate.le.level = s.le.level ∨
      s.levelUpdate.le.level = slew s.cfg.riseLimit s.cfg.fallLimit s.le.level (s.formDemand.dc.required.getD 0) := by
  unfold State.levelUpdate
  split
  · exact .inr (.inl rfl)
  · rw [State.updateListening, (State.report_le _ _).1]; exact .inl rfl
  · rw [State.updateRunning, (State.report_le _ _).1]
    exact LevelEngine.regulated_level s.le s.formDemand.dc _ _ s.cfg
  · rw [State.updateFallback, (State.report_le _ _).1]; exact .inl rfl

/-! ### The output level (R84, R85, R86, R100) -/

/-- Only a level update moves the output level to anything but 10000. -/
theorem Effect.level_eq_or_full {c : Instr} {s t : State} (h : Effect s c t) (hc : c ≠ .levelUpdate) :
    t.le.level = s.le.level ∨ t.le.level = 10000 := by
  cases h with
  | configured => exact .inr (State.configComplete_level _ _).1
  | powerOnReset => exact .inr rfl
  | lineReset => exact .inr rfl
  | move h =>
    cases h with
    | levelUpdated => exact absurd rfl hc
    | contactCloses => exact (State.contactCloses_le _).imp (congrArg LevelEngine.level) (congrArg LevelEngine.level)
    | contentSent => exact .inl (State.finishSending_le _ _).1
    | readBack => exact .inl (State.readBackCharacter_le ..).1
    | @accepted _ lc k r _ hk _ _ =>
      cases k with
      | override => exact (State.takeOverride_le _ r).imp (congrArg LevelEngine.level) (congrArg LevelEngine.level)
      | reset => exact absurd rfl hk
      | _ => exact .inl (by simp [State.dispatch])
    | _ => exact .inl (by simp)

/-- A level update moves the level by at most one step of the slew, or makes it 10000 (R84). -/
theorem level_within_of_levelUpdate {s t : State} (h : exec .levelUpdate s = .next t) :
    t.le.level = 10000 ∨ (s.le.level ≤ t.le.level + s.cfg.fallLimit ∧ t.le.level ≤ s.le.level + s.cfg.riseLimit) := by
  simp only [exec, execLevelUpdate] at h
  split at h
  · cases h
    rcases State.levelUpdate_level _ with h | h | h
    · exact .inl h
    · exact .inr ⟨by rw [h]; exact Nat.le_add_right _ _, by rw [h]; exact Nat.le_add_right _ _⟩
    · exact .inr (h ▸ slew_within s.cfg.riseLimit s.cfg.fallLimit s.le.level _)
  · cases h
    exact .inr ⟨Nat.le_add_right _ _, Nat.le_add_right _ _⟩

/-- Settles O33: every command but a level update leaves the level or makes it 10000, and a level update takes at most one step of
the slew. -/
theorem outputMovesWithinLimits : Obligations.OutputMovesWithinLimits := by
  refine ⟨fun s t hstep => ?limits, fun c s t hexec hc => (Effect.of_exec hexec).level_eq_or_full hc⟩
  case limits =>
    rcases step_cases hstep with ⟨c, rest, -, hexec⟩ | rfl
    · by_cases hc : c = .levelUpdate
      · subst hc
        exact (level_within_of_levelUpdate hexec :)
      · rcases (Effect.of_exec hexec).level_eq_or_full hc with h | h
        · exact .inr ⟨by rw [h]; exact Nat.le_add_right _ _, by rw [h]; exact Nat.le_add_right _ _⟩
        · exact .inl h
    · exact .inr ⟨Nat.le_add_right _ _, Nat.le_add_right _ _⟩

/-! ### The station state (05 section 5.6) -/

/-- The frames of every kind but RESET leave the station state. -/
theorem State.dispatch_station (s : State) {k : FrameKind} (hk : k ≠ .reset) (r : RawFrame) :
    (s.dispatch k r).le.station = s.le.station := by
  cases k with
  | reset => exact absurd rfl hk
  | override => rcases s.takeOverride_le r with h | h <;> exact (congrArg LevelEngine.station h :)
  | _ => simp [State.dispatch]

/-- Only the LISTENING timer moves the station state outside the resets and the completion of the read. -/
theorem Move.station {c : Instr} {s t : State} (h : Move s c t) : t.le.station = s.le.station ∨
    c = .listeningTimerExpiry ∧ s.le.station = .listening ∧ t.le.station = .running := by
  cases h with
  | entersRunning hdue hst => exact .inr ⟨rfl, hst, by simp⟩
  | contactCloses => rcases State.contactCloses_le _ with h | h <;> exact .inl (congrArg LevelEngine.station h :)
  | contentSent => exact .inl (State.finishSending_le _ _).2.2
  | readBack => exact .inl (State.readBackCharacter_le ..).2.2
  | accepted _ hk => exact .inl (State.dispatch_station _ hk _)
  | _ => exact .inl (by simp)

/-- Settles O35: only the resets, the completion of the read and the LISTENING timer touch the station state. -/
theorem stationTransitions : Obligations.StationTransitions := by
  intro c s t hexec hmoved
  cases Effect.of_exec hexec with
  | move h => exact .inr (.inr (h.station.resolve_left hmoved))
  | powerOnReset hc =>
    exact .inl ⟨rfl, hc.imp_right (Or.imp_right (Or.imp_right .inl))⟩
  | lineReset hfrom =>
    refine .inl ⟨rfl, .inr (.inr (.inr (.inr ⟨rfl, ?_⟩)))⟩
    exact hfrom.imp (fun ⟨f, hc, _⟩ => ⟨f, hc⟩) fun ⟨ch, hc, _⟩ => ⟨ch, hc⟩
  | @configured image due hc _ hst =>
    refine .inr (.inl ⟨hst, image, hc, ?_⟩)
    unfold State.configComplete
    split
    · next hbad => exact .inr ⟨hbad, by simp⟩
    · next hgood => exact .inl ⟨by simpa using hgood, by simp⟩

end Sys2Proof.Machine
end

section
/-! PROOF. The fault record over every command: a flag stays set (R141), ALARM follows the flags (R144), and the flag of every condition
present is set (R139). -/

namespace Sys2Proof.Machine

/-! ### Growth of the fault record -/

/-- From `s` to `t` no flag is cleared, every condition that begins is flagged, and ALARM goes on following the flags (R139, R141). -/
structure State.FaultsFollow (s t : State) : Prop where
  sticky : ∀ g, s.fr.isSet g = true → t.fr.isSet g = true
  flagged : ∀ g, t.condition g = true → s.condition g = true ∨ t.fr.isSet g = true
  alarm : s.fr.Follows → t.fr.Follows

/-- One move after another. -/
theorem State.FaultsFollow.trans {s t u : State} (hst : s.FaultsFollow t) (htu : t.FaultsFollow u) : s.FaultsFollow u where
  sticky g h := htu.sticky g (hst.sticky g h)
  flagged g h := (htu.flagged g h).elim (fun ht => (hst.flagged g ht).imp_right (htu.sticky g)) .inr
  alarm h := htu.alarm (hst.alarm h)

/-- The conditions are those of the blocks alone. -/
theorem State.condition_congr {s t : State} (hcl : t.cl.configFault = s.cl.configFault)
    (hpfe : t.pfe.sensorFault = s.pfe.sensorFault) (hpt : t.pt.neighbourLost = s.pt.neighbourLost)
    (hpa : t.pa = s.pa) (hdc : t.dc.capacityPart = s.dc.capacityPart) (hcap : t.ch.capacityPart = s.ch.capacityPart)
    (hlatched : t.ch.latchedCondition = s.ch.latchedCondition) (hopen : t.ch.openCondition = s.ch.openCondition) (g : Flag) :
    t.condition g = s.condition g := by
  cases g <;> simp only [State.condition, hcl, hpfe, hpt, hpa, hdc, hcap, hlatched, hopen]

/-- A move that touches neither the fault record nor a condition. -/
theorem State.FaultsFollow.of_frame {s t : State} (hfr : t.fr = s.fr := by simp) (hcl : t.cl.configFault = s.cl.configFault := by simp)
    (hpfe : t.pfe.sensorFault = s.pfe.sensorFault := by simp) (hpt : t.pt.neighbourLost = s.pt.neighbourLost := by simp)
    (hpa : t.pa = s.pa := by simp) (hdc : t.dc.capacityPart = s.dc.capacityPart := by simp)
    (hcap : t.ch.capacityPart = s.ch.capacityPart := by simp) (hlatched : t.ch.latchedCondition = s.ch.latchedCondition := by simp)
    (hopen : t.ch.openCondition = s.ch.openCondition := by simp) : s.FaultsFollow t where
  sticky _ h := hfr ▸ h
  flagged g h := .inl (State.condition_congr hcl hpfe hpt hpa hdc hcap hlatched hopen g ▸ h)
  alarm h := hfr ▸ h

/-- Raising a flag clears none. -/
theorem FaultRecord.isSet_raiseIf_of_isSet {fr : FaultRecord} {g : Flag} (h : fr.isSet g = true) (b : Bool) (f : Flag) :
    (fr.raiseIf b f).isSet g = true := by
  rw [FaultRecord.isSet_raiseIf, h, Bool.true_or]

/-- A flag raised where `b` holds is then set. -/
theorem FaultRecord.isSet_raiseIf_self (fr : FaultRecord) {b : Bool} (h : b = true) (f : Flag) : (fr.raiseIf b f).isSet f = true := by
  simp [FaultRecord.isSet_raiseIf, h]

/-- A flag raised without a change of the blocks. -/
theorem State.raiseIf_faultsFollow (s : State) (b : Bool) (f : Flag) : s.FaultsFollow (s.raiseIf b f) where
  sticky _ h := FaultRecord.isSet_raiseIf_of_isSet h b f
  flagged g h := .inl ((State.condition_congr (t := s.raiseIf b f) rfl rfl rfl rfl rfl rfl rfl rfl g).symm.trans h)
  alarm h := FaultRecord.raiseIf_follows h b f

/-! ### The channel block (R124, R131, R133) -/

@[simp] theorem ChannelBlock.capacityPart_set (b : ChannelBlock) (k : ChannelId) (c : Channel) :
    (b.set k c).capacityPart = b.capacityPart := by cases k <;> rfl
@[simp] theorem ChannelBlock.latchedCondition_set (b : ChannelBlock) (k : ChannelId) (c : Channel) :
    (b.set k c).latchedCondition = b.latchedCondition := by cases k <;> rfl
@[simp] theorem ChannelBlock.openCondition_set (b : ChannelBlock) (k : ChannelId) (c : Channel) :
    (b.set k c).openCondition = b.openCondition := by cases k <;> rfl
@[simp] theorem ChannelBlock.capacityPart_map (b : ChannelBlock) (g : ChannelId → Channel → Channel) :
    (b.map g).capacityPart = b.capacityPart := rfl
@[simp] theorem ChannelBlock.latchedCondition_map (b : ChannelBlock) (g : ChannelId → Channel → Channel) :
    (b.map g).latchedCondition = b.latchedCondition := rfl
@[simp] theorem ChannelBlock.openCondition_map (b : ChannelBlock) (g : ChannelId → Channel → Channel) :
    (b.map g).openCondition = b.openCondition := rfl

/-- A computation flags the conditions of the channel block. -/
theorem State.computeCommands_faultsFollow (s : State) : s.FaultsFollow s.computeCommands where
  sticky g h := (s.computeCommands_raisesOnly.2 g).1 h
  flagged g h := by
    obtain ⟨-, -, -, -, -, -, hcap, hlatched, hopen⟩ := s.computeCommands_channelsComputed
    cases g with
    | overcurrentLatched => exact .inr (hlatched h)
    | openLoad => exact .inr (hopen h)
    | capacity =>
      rcases Bool.or_eq_true _ _ ▸ h with hdc | hch
      · exact .inl (by simpa [State.condition] using .inl hdc)
      · exact .inr (hcap hch)
    | _ => exact .inl h
  alarm h := FaultRecord.raiseIf_follows (FaultRecord.raiseIf_follows (FaultRecord.raiseIf_follows h _ _) _ _) _ _

/-- A channel changed and the commands computed from it. -/
theorem State.setChannel_computeCommands_faultsFollow (s : State) (k : ChannelId) (c : Channel) :
    s.FaultsFollow (s.setChannel k c).computeCommands :=
  .trans .of_frame (State.computeCommands_faultsFollow _)

/-- A level handed over. -/
theorem State.handOver_faultsFollow (s : State) (level : Nat) : s.FaultsFollow (s.handOver level) :=
  .trans .of_frame (State.computeCommands_faultsFollow _)

/-- A trip taken. -/
theorem State.trip_faultsFollow (s : State) (k : ChannelId) : s.FaultsFollow (s.trip k) := by
  unfold State.trip
  dsimp only
  split
  · split
    · exact .of_frame
    · exact s.setChannel_computeCommands_faultsFollow ..
  · exact s.setChannel_computeCommands_faultsFollow ..
  · exact s.setChannel_computeCommands_faultsFollow ..

/-- A pulse of load current. -/
theorem State.loadCurrent_faultsFollow (s : State) (k : ChannelId) : s.FaultsFollow (s.loadCurrent k) := by
  unfold State.loadCurrent
  dsimp only
  split
  · exact s.setChannel_computeCommands_faultsFollow ..
  split
  · exact .of_frame
  · exact .of_frame

/-- The channel set of a CLEAR. -/
theorem State.clearChannels_faultsFollow (s : State) (f : ClearFields) : s.FaultsFollow (s.clearChannels f) := by
  unfold State.clearChannels
  dsimp only
  split
  · exact .trans .of_frame (State.computeCommands_faultsFollow _)
  · exact .of_frame

/-- An effective FULL that begins. -/
theorem State.beginFull_faultsFollow (s : State) : s.FaultsFollow s.beginFull := by
  unfold State.beginFull
  split
  · exact .trans .of_frame (State.handOver_faultsFollow _ _)
  · exact .of_frame

/-! ### The photometer front end (R10) -/

@[simp] theorem State.placePortal_sensorFault (s : State) : s.placePortal.pfe.sensorFault = s.pfe.sensorFault := rfl

@[simp] theorem State.earlyPortal_sensorFault (s : State) (l : Nat) : (s.earlyPortal l).pfe.sensorFault = s.pfe.sensorFault := by
  unfold State.earlyPortal; split <;> simp

@[simp] theorem State.keepSample_sensorFault (s : State) (n : Nat) (b : Bool) :
    (s.keepSample n b).pfe.sensorFault = s.pfe.sensorFault := by
  simp [State.keepSample, Photometer.keep]

@[simp] theorem State.sampleInstant_sensorFault (s : State) (n : Nat) :
    (s.sampleInstant n).pfe.sensorFault = s.pfe.sensorFault := by
  unfold State.sampleInstant State.takeConversion
  dsimp only
  split
  · rfl
  split <;> simp [Photometer.discard, Photometer.stepUp]

@[simp] theorem State.portalReport_sensorFault (s : State) : s.portalReport.pfe.sensorFault = s.pfe.sensorFault := by
  unfold State.portalReport; split <;> simp

/-- SENSOR_FAULT is flagged as it begins. -/
theorem State.beginSensorFault_faultsFollow (s : State) : s.FaultsFollow s.beginSensorFault where
  sticky g h := by simpa [State.beginSensorFault] using FaultRecord.isSet_raiseIf_of_isSet h true .sensorFault
  flagged g h := by
    cases g with
    | sensorFault => exact .inr (by simpa [State.beginSensorFault] using FaultRecord.isSet_raiseIf_self _ rfl _)
    | _ => exact .inl (Eq.trans (by simp [State.condition, State.beginSensorFault]) h)
  alarm h := by simpa [State.beginSensorFault] using FaultRecord.raiseIf_follows h true .sensorFault

/-- The front end starts. -/
theorem State.startPhotometer_faultsFollow (s : State) : s.FaultsFollow s.startPhotometer := by
  unfold State.startPhotometer
  dsimp only
  split
  · split
    · exact .of_frame
    · exact .trans .of_frame (State.beginSensorFault_faultsFollow _)
  · exact .of_frame

/-! ### The peer table, the aggregator and the demand calculator (R36, R38, R48, R77) -/

/-- NEIGHBOUR_LOST is flagged where the examination finds it present. -/
theorem State.examineNeighbours_faultsFollow (s : State) : s.FaultsFollow s.examineNeighbours where
  sticky g h := FaultRecord.isSet_raiseIf_of_isSet h _ _
  flagged g h := by
    cases g with
    | neighbourLost => exact .inr (FaultRecord.isSet_raiseIf_self _ h _)
    | _ => exact .inl h
  alarm h := FaultRecord.raiseIf_follows h _ _

/-- A frame applied to its entry. -/
theorem State.applyToEntry_faultsFollow (s : State) (src : Byte) (g : Entry → Entry) : s.FaultsFollow (s.applyToEntry src g) := by
  rcases s.applyToEntry_cases src g with ⟨e, -, h⟩ | ⟨es, -, -, h⟩ | ⟨-, -, h⟩
  · exact h ▸ .of_frame
  · exact h ▸ .of_frame
  · exact h ▸ s.raiseIf_faultsFollow _ _

/-- A LEVEL frame at the peer table. -/
theorem State.takeLevel_faultsFollow (s : State) (r : RawFrame) : s.FaultsFollow (s.takeLevel r) := by
  unfold State.takeLevel
  dsimp only
  split
  · split
    · exact .of_frame
    split
    · exact .of_frame
    split
    · exact (s.applyToEntry_faultsFollow ..).trans (State.examineNeighbours_faultsFollow _)
    · exact s.applyToEntry_faultsFollow ..
  · exact .of_frame

/-- A PORTAL frame at the peer table. -/
theorem State.takePortal_faultsFollow (s : State) (r : RawFrame) : s.FaultsFollow (s.takePortal r) := by
  unfold State.takePortal
  split
  · split
    · exact .of_frame
    split
    · exact .of_frame
    split
    · exact .of_frame
    · exact s.applyToEntry_faultsFollow ..
  · exact .of_frame

/-- An IDENT frame at the peer table. -/
theorem State.takeIdent_faultsFollow (s : State) (r : RawFrame) : s.FaultsFollow (s.takeIdent r) := by
  unfold State.takeIdent
  split
  · split
    · exact .of_frame
    · exact s.applyToEntry_faultsFollow ..
  · exact .of_frame

/-- Sides whose PORTAL_X_LOST conditions are raised as they are examined. -/
theorem State.raiseSides_faultsFollow (s : State) (pa : Aggregator) :
    s.FaultsFollow { s with pa := pa, fr := (s.fr.raiseIf pa.a.lost .portalALost).raiseIf pa.b.lost .portalBLost } where
  sticky g h := FaultRecord.isSet_raiseIf_of_isSet (FaultRecord.isSet_raiseIf_of_isSet h _ _) _ _
  flagged g h := by
    cases g with
    | portalALost => exact .inr (FaultRecord.isSet_raiseIf_of_isSet (FaultRecord.isSet_raiseIf_self _ h _) _ _)
    | portalBLost => exact .inr (FaultRecord.isSet_raiseIf_self _ h _)
    | _ => exact .inl h
  alarm h := FaultRecord.raiseIf_follows (FaultRecord.raiseIf_follows h _ _) _ _

/-- The demand formed: the required-level part of CAPACITY is flagged where it is present. -/
theorem State.formDemand_faultsFollow (s : State) : s.FaultsFollow s.formDemand := by
  refine (s.raiseSides_faultsFollow _ : s.FaultsFollow s.formSides).trans ⟨fun g h => ?_, fun g h => ?_, fun h => ?_⟩
  · exact FaultRecord.isSet_raiseIf_of_isSet h _ _
  · cases g with
    | capacity =>
      rcases Bool.or_eq_true _ _ ▸ h with hdc | hch
      · exact .inr (FaultRecord.isSet_raiseIf_self _ hdc _)
      · exact .inl (by simpa [State.condition] using .inr hch)
    | _ => exact .inl h
  · exact FaultRecord.raiseIf_follows h _ _

/-- A TRIM at the demand calculator. -/
theorem State.takeTrim_faultsFollow (s : State) (r : RawFrame) : s.FaultsFollow (s.takeTrim r) := by
  unfold State.takeTrim
  dsimp only
  split
  · split
    · exact s.raiseIf_faultsFollow _ _
    · exact .of_frame
  · exact .of_frame

/-! ### The override list and the contact (R85, R107) -/

/-- An entry admitted. -/
theorem State.admitOverride_faultsFollow (s : State) (kept : List OverrideEntry) (e : OverrideEntry) :
    s.FaultsFollow (s.admitOverride kept e) := by
  unfold State.admitOverride
  dsimp only
  split
  · exact .trans .of_frame (State.beginFull_faultsFollow _)
  · exact .of_frame

/-- An OVERRIDE at the override list. -/
theorem State.takeOverride_faultsFollow (s : State) (r : RawFrame) : s.FaultsFollow (s.takeOverride r) := by
  unfold State.takeOverride
  split
  · split
    · exact .of_frame
    split
    · exact .of_frame
    split
    · exact .of_frame
    unfold State.takeOrder
    dsimp only
    split
    · exact .of_frame
    split
    · exact s.admitOverride_faultsFollow _ _
    split
    · exact s.admitOverride_faultsFollow _ _
    · exact s.raiseIf_faultsFollow _ _
  · exact .of_frame

/-- The contact closes. -/
theorem State.contactCloses_faultsFollow (s : State) : s.FaultsFollow s.contactCloses := by
  have hacted : s.FaultsFollow s.contactActed := by
    unfold State.contactActed
    split
    · exact .of_frame
    · exact .trans .of_frame (State.beginFull_faultsFollow _)
  rw [State.contactCloses_eq]
  split
  · exact hacted.trans .of_frame
  · exact hacted

/-! ### The level update, the entries to the station states, and the line -/

/-- The end of a level update touches neither flags nor conditions. -/
theorem State.report_faultsFollow (s : State) (y : Nat) : s.FaultsFollow (s.report y) := by
  unfold State.report
  dsimp only
  split <;> exact .of_frame

/-- A level update. -/
theorem State.levelUpdate_faultsFollow (s : State) : s.FaultsFollow s.levelUpdate := by
  have hupdate (d : State) (hd : s.FaultsFollow d) (le : LevelEngine) (level y : Nat) :
      s.FaultsFollow ((({ d with le := le } : State).handOver level).report y) :=
    (hd.trans .of_frame).trans ((State.handOver_faultsFollow _ _).trans (State.report_faultsFollow _ _))
  unfold State.levelUpdate
  split
  · exact .of_frame
  · exact hupdate _ s.formDemand_faultsFollow ..
  · exact hupdate _ s.formDemand_faultsFollow ..
  · exact hupdate _ .of_frame ..

/-- The mask and CONFIG_FAULT taken together (R140, R143, R144). -/
theorem FaultRecord.configured_grows (fr : FaultRecord) (mask : BitVec 13) (fault : Bool) :
    (∀ g, fr.isSet g = true → (fr.configured mask fault).isSet g = true) ∧
      (fault = true → (fr.configured mask fault).isSet .configFault = true) ∧ (fr.configured mask fault).Follows :=
  ⟨fun _ h => FaultRecord.isSet_raiseIf_of_isSet (fr := fr.withMask mask) h _ _, fun h => FaultRecord.isSet_raiseIf_self _ h _,
    FaultRecord.raiseIf_follows (FaultRecord.withMask_follows _ _) _ _⟩

/-- A state that takes the mask and CONFIG_FAULT of a read, every other condition as it was. -/
theorem State.faultsFollow_of_configured {s t : State} {mask : BitVec 13} {fault : Bool} (hfr : t.fr = s.fr.configured mask fault)
    (hfault : t.cl.configFault = fault) (hother : ∀ g, g ≠ .configFault → t.condition g = s.condition g) : s.FaultsFollow t := by
  obtain ⟨hsticky, hconfig, halarm⟩ := s.fr.configured_grows mask fault
  refine ⟨fun g h => hfr ▸ hsticky g h, fun g h => ?_, fun _ => hfr ▸ halarm⟩
  by_cases hg : g = .configFault
  · subst hg
    exact .inr (hfr ▸ hconfig (hfault ▸ h))
  · exact .inl (hother g hg ▸ h)

/-- The capability chain placed. -/
theorem State.fillIdent_faultsFollow (s : State) (dest : Byte) : s.FaultsFollow (s.fillIdent dest) := .of_frame

/-- The completion of the read. -/
theorem State.configComplete_faultsFollow (s : State) (p : List Byte) : s.FaultsFollow (s.configComplete p) := by
  have hother (g : Flag) (hg : g ≠ .configFault) (t : State) (hpfe : t.pfe = s.pfe) (hpt : t.pt.neighbourLost = s.pt.neighbourLost)
      (hpa : t.pa = s.pa) (hdc : t.dc.capacityPart = s.dc.capacityPart) (n : Nat) (hch : t.ch = s.ch.energised n) :
      t.condition g = s.condition g := by
    cases g with
    | configFault => exact absurd rfl hg
    | _ => simp [State.condition, hpfe, hpt, hpa, hdc, hch, ChannelBlock.energised]
  unfold State.configComplete State.enterFallback State.enterListening
  dsimp only
  split
  · refine .trans ?_ (State.handOver_faultsFollow _ _)
    exact State.faultsFollow_of_configured rfl rfl fun g hg => hother g hg _ rfl rfl rfl rfl _ rfl
  · refine .trans (.trans (.trans ?_ (State.handOver_faultsFollow _ _)) (State.fillIdent_faultsFollow _ _))
      (State.startPhotometer_faultsFollow _)
    exact State.faultsFollow_of_configured rfl rfl fun g hg => hother g hg _ rfl rfl rfl rfl _ rfl

/-- The entry to RUNNING. -/
theorem State.enterRunning_faultsFollow (s : State) : s.FaultsFollow s.enterRunning :=
  .trans .of_frame ((State.examineNeighbours_faultsFollow _).trans (State.raiseSides_faultsFollow _ _))

@[simp] theorem State.noteSent_sensorFault (s : State) (k : SlotId) : (s.noteSent k).pfe.sensorFault = s.pfe.sensorFault := by
  cases k <;> rfl

/-- A content sent. -/
theorem State.finishSending_faultsFollow (s : State) (a : Attempt) : s.FaultsFollow (s.finishSending a) :=
  .of_frame (hpfe := by simp [State.finishSending])

/-- A collision. -/
theorem State.collide_faultsFollow (s : State) (a : Attempt) : s.FaultsFollow (s.collide a) := by
  unfold State.collide
  dsimp only
  split
  · exact .of_frame
  · exact .trans (t := s.raiseIf true .collisionLimit) (s.raiseIf_faultsFollow _ _) .of_frame

/-- A character read back. -/
theorem State.readBackCharacter_faultsFollow (s : State) (a : Attempt) (start : Time) (sent : Nat) (c : LineChar) :
    s.FaultsFollow (s.readBackCharacter a start sent c) := by
  have helapsed {u : State} (at' : Time) (h : (s.elapseTo at').FaultsFollow u) : s.FaultsFollow u := .trans .of_frame h
  unfold State.readBackCharacter
  dsimp only
  split
  · split
    · split
      · exact .of_frame
      · exact helapsed _ (State.finishSending_faultsFollow _ _)
    · exact helapsed _ (State.collide_faultsFollow _ _)
  · exact helapsed _ (State.finishSending_faultsFollow _ _)

/-! ### Every command (R139, R141, R144) -/

/-- The frames of every kind but CLEAR and RESET. -/
theorem State.dispatch_faultsFollow (s : State) {k : FrameKind} (hclear : k ≠ .clear) (hreset : k ≠ .reset) (r : RawFrame) :
    s.FaultsFollow (s.dispatch k r) := by
  cases k with
  | level => exact s.takeLevel_faultsFollow r
  | portal => exact s.takePortal_faultsFollow r
  | override => exact s.takeOverride_faultsFollow r
  | trim => exact s.takeTrim_faultsFollow r
  | clear => exact absurd rfl hclear
  | identReq => exact s.fillIdent_faultsFollow r.src
  | ident => exact s.takeIdent_faultsFollow r
  | reset => exact absurd rfl hreset

/-- The fault record, the conditions and the station state right after a reset (R146). -/
structure State.FaultsReset (t : State) : Prop where
  fr : t.fr = FaultRecord.atReset
  none_present : ∀ g, t.condition g = false
  station : t.le.station = .configuring

/-- The values of the reset tables. -/
theorem State.atResetValues_faultsReset (s : State) (lock : Bool) (n m e : Nat) (started : Bool) :
    (s.atResetValues lock n m e started).FaultsReset :=
  ⟨rfl, fun g => by cases g <;> rfl, rfl⟩

/-- What a move does to the fault record: it grows with the conditions, or a CLEAR is taken after its channels. -/
theorem Move.faults {c : Instr} {s t : State} (h : Move s c t) :
    s.FaultsFollow t ∨ ∃ u r, s.FaultsFollow u ∧ FrameOf c s .clear r ∧ checkFrame s.line r = .accepted .clear ∧
      t = { u with fr := u.fr.clearFlags (readClear r.payload).flags u.conditions } := by
  have helapsed {at' : Time} {u : State} (h : (s.elapseTo at').FaultsFollow u) : s.FaultsFollow u := .trans .of_frame h
  cases h with
  | faultBegins => exact .inl (.trans .of_frame (State.beginSensorFault_faultsFollow _))
  | recovered =>
    refine .inl ⟨fun g h => h, fun g h => ?_, fun h => h⟩
    cases g with
    | sensorFault => cases h
    | _ => exact .inl h
  | levelUpdated => exact .inl (.trans .of_frame (State.levelUpdate_faultsFollow _))
  | entersRunning => exact .inl (helapsed (State.enterRunning_faultsFollow _))
  | neighbourAged => exact .inl (.trans .of_frame (State.examineNeighbours_faultsFollow _))
  | contactCloses => exact .inl (.trans .of_frame (State.contactCloses_faultsFollow _))
  | tripped => exact .inl (helapsed (State.trip_faultsFollow _ _))
  | retried => exact .inl (helapsed (State.setChannel_computeCommands_faultsFollow ..))
  | foundOpen => exact .inl (helapsed (State.setChannel_computeCommands_faultsFollow ..))
  | currentSensed => exact .inl (State.loadCurrent_faultsFollow _ _)
  | contentSent => exact .inl (helapsed (State.finishSending_faultsFollow _ _))
  | collided => exact .inl (helapsed (State.collide_faultsFollow _ _))
  | readBack => exact .inl (State.readBackCharacter_faultsFollow ..)
  | ownSource => exact .inl (.trans .of_frame (State.raiseIf_faultsFollow _ _ _))
  | @accepted _ lc k r _ hk hfrom hcheck =>
    have hheard : s.FaultsFollow { s with lc := lc } := .of_frame
    by_cases hclear : k = .clear
    · subst hclear
      exact .inr ⟨_, r, hheard.trans (State.clearChannels_faultsFollow _ (readClear r.payload)), hfrom, hcheck, rfl⟩
    · exact .inl (hheard.trans (State.dispatch_faultsFollow _ hclear hk r))
  | _ => exact .inl .of_frame

/-- What a command does to the fault record: as a move, or by a reset. -/
theorem Effect.faults {c : Instr} {s t : State} (h : Effect s c t) :
    s.FaultsFollow t ∨ t.FaultsReset ∨ ∃ u r, s.FaultsFollow u ∧ FrameOf c s .clear r ∧ checkFrame s.line r = .accepted .clear ∧
      t = { u with fr := u.fr.clearFlags (readClear r.payload).flags u.conditions } := by
  cases h with
  | move h => exact h.faults.imp_right .inr
  | configured => exact .inl (.trans .of_frame (State.configComplete_faultsFollow _ _))
  | powerOnReset => exact .inr (.inl (State.atResetValues_faultsReset ..))
  | lineReset => exact .inr (.inl (State.atResetValues_faultsReset ..))

/-- A CLEAR clears exactly the flags it names whose condition is absent, with ALARM following (R141). -/
theorem State.clearFlags_isSet (u : State) (named : BitVec 13) (g : Flag) :
    (u.fr.clearFlags named u.conditions).isSet g = (u.fr.isSet g && !(named.getLsbD g.position && !u.condition g)) := by
  rw [FaultRecord.isSet_clearFlags, State.conditions_getLsbD]

/-- Both invariants of the fault record pass from a state to what a command makes of it. -/
theorem Effect.keepsFaultRecord {c : Instr} {s t : State} (h : Effect s c t) (halarm : s.AlarmFollowsFlags)
    (hflagged : s.ConditionsFlagged) : t.AlarmFollowsFlags ∧ t.ConditionsFlagged := by
  have hfollow {u : State} (hsu : s.FaultsFollow u) : u.AlarmFollowsFlags ∧ u.ConditionsFlagged :=
    ⟨hsu.alarm halarm, fun g hg => (hsu.flagged g hg).elim (fun hs => hsu.sticky g (hflagged g hs)) id⟩
  rcases h.faults with hgrow | hreset | ⟨u, r, hsu, -, -, rfl⟩
  · exact hfollow hgrow
  · refine ⟨?_, fun g hg => ?_⟩
    · unfold State.AlarmFollowsFlags
      simp [hreset.fr, FaultRecord.atReset]
    · rw [hreset.none_present g] at hg
      cases hg
  · obtain ⟨-, hpresent⟩ := hfollow hsu
    refine ⟨FaultRecord.withFlags_follows _ _, fun g hg => ?_⟩
    have hcond : u.condition g = true := (State.condition_congr rfl rfl rfl rfl rfl rfl rfl rfl g).symm.trans hg
    simp [State.clearFlags_isSet, hcond, hpresent g hcond]

/-- Settles O57: an idle unit of the clock touches no flag and no condition, and every command keeps both invariants. -/
theorem stepKeepsFaultRecord : Obligations.StepKeepsFaultRecord := by
  intro s t halarm hflagged hstep
  rcases step_cases hstep with ⟨c, rest, -, hexec⟩ | rfl
  · exact (Effect.of_exec hexec).keepsFaultRecord halarm hflagged
  · exact ⟨halarm, hflagged⟩

/-! ### What a CLEAR names, from its frame or its characters (R141, R150) -/

/-- A byte of the front part of a payload is that byte of the payload. -/
theorem byteAt_take {p : List Byte} {n i : Nat} (h : i < n) : byteAt (p.take n) i = byteAt p i := by
  simp [byteAt, List.getD_eq_getElem?_getD, h]

/-- Settles O46: a flag is lost only by a reset or a CLEAR, and a CLEAR loses only what it names and is absent. -/
theorem flagsAreSticky : Obligations.FlagsAreSticky := by
  intro c s t g hexec hset
  rcases (Effect.of_exec hexec).faults with hgrow | hreset | ⟨u, r, hsu, hfrom, hcheck, rfl⟩
  · exact .inl (hgrow.sticky g hset)
  · exact .inr (.inl hreset.station)
  · have hcleared := u.clearFlags_isSet (readClear r.payload).flags g
    rw [hsu.sticky g hset, Bool.true_and] at hcleared
    by_cases hlost : (readClear r.payload).flags.getLsbD g.position = true ∧ u.condition g = false
    · obtain ⟨hnamed, habsent⟩ := hlost
      refine .inr (.inr ⟨(State.condition_congr rfl rfl rfl rfl rfl rfl rfl rfl g).trans habsent, ?_⟩)
      rcases hfrom with ⟨f, hc, rfl⟩ | ⟨ch, hc, rfl⟩
      · exact .inl ⟨f, hc, hnamed⟩
      · obtain ⟨-, hkind, hlen, -⟩ := checkFrame_accepted hcheck
        have hthree : (byteAt (s.lc.assembly ++ [ch.data]) 4).toNat = 3 := by
          simpa [FrameKind.lengthFits, rawOfAssembly] using hlen
        refine .inr ⟨ch, hc, FrameKind.eq_code_of_ofCode hkind, ?_⟩
        simpa [rawOfAssembly, readClear, fieldAt, hthree, byteAt_take] using hnamed
    · refine .inl (hcleared.trans ?_)
      cases hn : (readClear r.payload).flags.getLsbD g.position <;> cases hc : u.condition g <;> simp_all

end Sys2Proof.Machine
end

section
/-! PROOF. The limits of the peer table (R21, R25), the override list (R101, R103) and the line controller (R147, R150, R157) over every
command. -/

namespace Sys2Proof.Machine

/-! ### The station state over a move -/

/-- A move leaves LISTENING and RUNNING together, and so the other two states. -/
theorem Move.regulates {c : Instr} {s t : State} (h : Move s c t) : t.le.station.regulates = s.le.station.regulates := by
  rcases h.station with hst | ⟨-, hs, ht⟩
  · rw [hst]
  · rw [hs, ht]; rfl

/-! ### The line controller -/

/-- The limits of the line controller (R147, R150, R157), said of it alone. -/
def LineControl.Within (lc : LineControl) : Prop :=
  (∀ k, (lc.slots.get k).attempts < 8) ∧ lc.lineResets ≤ 255 ∧ lc.collisionDrops ≤ 65535 ∧ lc.crcErrors ≤ 65535 ∧
    lc.assembly.length < 55

/-- `new` can come after `old` in operation: the parameters stay, and so do the limits. -/
structure LineControl.Succeeds (new old : LineControl) : Prop where
  params : new.params = old.params
  within : old.Within → new.Within

/-- A line controller left as it is. -/
theorem LineControl.Succeeds.of_eq {new old : LineControl} (h : new = old) : new.Succeeds old := h ▸ ⟨rfl, id⟩

/-- One change after another. -/
theorem LineControl.Succeeds.trans {a b c : LineControl} (hab : a.Succeeds b) (hbc : b.Succeeds c) : a.Succeeds c :=
  ⟨hab.params.trans hbc.params, fun h => hab.within (hbc.within h)⟩

/-- Hearing characters. -/
theorem LineControl.HeardFrom.succeeds {lc old : LineControl} (h : lc.HeardFrom old) : lc.Succeeds old := by
  refine ⟨h.params, fun ⟨hslots, hresets, hdrops, hcrc, _⟩ => ⟨h.slots ▸ hslots, h.lineResets ▸ hresets, h.collisionDrops ▸ hdrops,
    ?_, h.assembly⟩⟩
  rcases h.crcErrors with heq | heq <;> omega

/-- Filling a slot (R157). -/
theorem LineControl.fill_succeeds (lc : LineControl) (k : SlotId) (c : Content) (p : LineParams) (now : Time) :
    (lc.fill k c p now).Succeeds lc := by
  obtain ⟨-, hattempts, hother, -, -, -, hrest⟩ := lc.fill_slotFilled k c p now
  refine ⟨lc.fill_params k c p now, fun ⟨hslots, hresets, hdrops, hcrc, hassembly⟩ => ⟨fun j => ?_, ?_⟩⟩
  · by_cases hj : j = k
    · subst hj
      rw [hattempts]
      split
      · decide
      · exact hslots j
    · rw [hother j hj]
      exact hslots j
  · rw [hrest]
    exact ⟨hresets, hdrops, hcrc, hassembly⟩

/-- Starting an attempt (R158). -/
theorem LineControl.startAttempt_succeeds (lc : LineControl) (p : LineParams) (now : Time) : (lc.startAttempt p now).Succeeds lc := by
  rcases lc.startAttempt_cases p now with ⟨k, c, -, -, h⟩ | ⟨-, h⟩
  · exact h ▸ ⟨rfl, id⟩
  · exact .of_eq h

/-- Emptying the assembly, with the idle detector, the attempt and the guard as they may be. -/
theorem LineControl.succeeds_of_emptied {lc old : LineControl} (hslots : lc.slots = old.slots) (hparams : lc.params = old.params)
    (hresets : lc.lineResets = old.lineResets) (hdrops : lc.collisionDrops = old.collisionDrops)
    (hcrc : lc.crcErrors = old.crcErrors) (hassembly : lc.assembly = []) : lc.Succeeds old :=
  LineControl.HeardFrom.succeeds ⟨hslots, hparams, hresets, hdrops, .inl hcrc, by simp [hassembly]⟩

/-- A slot replaced by one with an attempt count below 8, at most one drop counted, and the line released (R159, R160). -/
theorem LineControl.succeeds_of_released {lc old : LineControl} {k : SlotId} {x : Slot} (hx : x.attempts < 8)
    (hslots : lc.slots = old.slots.set k x) (hparams : lc.params = old.params) (hresets : lc.lineResets = old.lineResets)
    (hdrops : lc.collisionDrops ≤ max old.collisionDrops 65535) (hcrc : lc.crcErrors = old.crcErrors)
    (hassembly : lc.assembly = old.assembly) : lc.Succeeds old := by
  refine ⟨hparams, fun ⟨hold, h1, h2, h3, h4⟩ => ⟨fun j => ?_, hresets ▸ h1, by omega, hcrc ▸ h3, hassembly ▸ h4⟩⟩
  rw [hslots, Slots.get_set]
  split
  · exact hx
  · exact hold j

theorem State.finishSending_line (s : State) (a : Attempt) : (s.finishSending a).lc.Succeeds s.lc := by
  unfold State.finishSending
  dsimp only
  rw [State.noteSent_lc]
  exact LineControl.succeeds_of_released (k := a.slot) (x := (s.lc.slots.get a.slot).emptied a.refilled) (by decide : (0 : Nat) < 8)
    rfl rfl rfl (le_max_left _ _) rfl rfl

theorem State.collide_line (s : State) (a : Attempt) : (s.collide a).lc.Succeeds s.lc := by
  unfold State.collide
  dsimp only
  split
  · next hbelow =>
    exact LineControl.succeeds_of_released (k := a.slot)
      (x := { s.lc.slots.get a.slot with attempts := (s.lc.slots.get a.slot).attempts + 1 }) hbelow
      rfl rfl rfl (le_max_left _ _) rfl rfl
  · exact LineControl.succeeds_of_released (k := a.slot) (x := (s.lc.slots.get a.slot).emptied a.refilled) (by decide : (0 : Nat) < 8)
      rfl rfl rfl (le_trans (min_le_right _ _) (le_max_right _ _)) rfl rfl

theorem State.readBackCharacter_line (s : State) (a : Attempt) (start : Time) (sent : Nat) (c : LineChar) :
    (s.readBackCharacter a start sent c).lc.Succeeds s.lc := by
  unfold State.readBackCharacter
  dsimp only
  split
  · split
    · split
      · exact ⟨rfl, id⟩
      · exact State.finishSending_line _ _
    · exact State.collide_line _ _
  · exact State.finishSending_line _ _

theorem State.fillSlot_line (s : State) (k : SlotId) (c : Content) : (s.fillSlot k c).lc.Succeeds s.lc :=
  s.lc.fill_succeeds ..

theorem State.earlyPortal_line (s : State) (l : Nat) : (s.earlyPortal l).lc.Succeeds s.lc := by
  unfold State.earlyPortal
  split
  · exact State.fillSlot_line _ _ _
  · exact .of_eq rfl

theorem State.sampleInstant_line (s : State) (n : Nat) : (s.sampleInstant n).lc.Succeeds s.lc := by
  have hkept (u : State) (b : Bool) : (u.keepSample n b).lc.Succeeds u.lc := State.earlyPortal_line _ _
  unfold State.sampleInstant State.takeConversion
  dsimp only
  split
  · exact .of_eq rfl
  split
  · exact .of_eq rfl
  · exact hkept _ _
  · exact hkept _ _
  · exact hkept _ _

theorem State.beginSensorFault_line (s : State) : s.beginSensorFault.lc.Succeeds s.lc := State.earlyPortal_line _ _

theorem State.portalReport_line (s : State) : s.portalReport.lc.Succeeds s.lc := by
  unfold State.portalReport
  split
  · exact State.fillSlot_line _ _ _
  · exact .of_eq rfl

theorem State.contactCloses_line (s : State) : s.contactCloses.lc.Succeeds s.lc := by
  have hacted : s.contactActed.lc = s.lc := by unfold State.contactActed; split <;> simp
  rw [State.contactCloses_eq]
  split
  · exact hacted ▸ State.fillSlot_line _ _ _
  · exact .of_eq hacted

theorem State.contactOpens_line (s : State) : s.contactOpens.lc.Succeeds s.lc := by
  unfold State.contactOpens
  dsimp only
  split
  · exact State.fillSlot_line _ _ _
  · exact .of_eq rfl

theorem State.report_line (s : State) (y : Nat) : (s.report y).lc.Succeeds s.lc := by
  unfold State.report
  dsimp only
  split
  · exact State.fillSlot_line _ _ _
  · exact .of_eq rfl

theorem State.levelUpdate_line (s : State) : s.levelUpdate.lc.Succeeds s.lc := by
  unfold State.levelUpdate
  split
  · exact .of_eq rfl
  · exact State.report_line _ _
  · exact State.report_line _ _
  · exact State.report_line _ _

/-- The frames of every kind but RESET. -/
theorem State.dispatch_line (s : State) {k : FrameKind} (hk : k ≠ .reset) (r : RawFrame) : (s.dispatch k r).lc.Succeeds s.lc := by
  cases k with
  | reset => exact absurd rfl hk
  | identReq => exact State.fillSlot_line _ _ _
  | _ => exact .of_eq (by simp [State.dispatch])

/-- Every move keeps the parameters and the limits of the line controller. -/
theorem Move.line {c : Instr} {s t : State} (h : Move s c t) : t.lc.Succeeds s.lc := by
  cases h with
  | sampled => exact State.sampleInstant_line _ _
  | faultBegins => exact State.beginSensorFault_line _
  | portalReported => exact State.portalReport_line _
  | levelUpdated => exact State.levelUpdate_line _
  | contactCloses => exact State.contactCloses_line _
  | contactOpens => exact State.contactOpens_line _
  | propagated => exact State.fillSlot_line _ _ _
  | lineIdles =>
    exact (LineControl.startAttempt_succeeds _ _ _).trans (LineControl.succeeds_of_emptied rfl rfl rfl rfl rfl rfl)
  | sendingStarts => exact LineControl.succeeds_of_emptied rfl rfl rfl rfl rfl rfl
  | contentSent => exact State.finishSending_line _ _
  | collided => exact State.collide_line _ _
  | readBack => exact State.readBackCharacter_line ..
  | guardEnds => exact ⟨rfl, id⟩
  | actChanges => exact ⟨rfl, id⟩
  | noise hheard => exact hheard.succeeds
  | ownSource hheard => exact hheard.succeeds
  | accepted hheard hk => exact (State.dispatch_line _ hk _).trans hheard.succeeds
  | _ => exact .of_eq (by simp)

/-- A move leaves the address, the mask and the rate in use. -/
theorem Move.line_eq {c : Instr} {s t : State} (h : Move s c t) : t.line = s.line := by
  simp only [State.line, h.line.params]

/-- The completion of the read keeps the limits of the line controller. -/
theorem State.configComplete_lineWithin {s : State} (h : s.lc.Within) (p : List Byte) : (s.configComplete p).lc.Within := by
  have hbegun (q : LineParams) : (s.lc.begin q s.now).Within := h
  have hstarted (u : State) : u.startPhotometer.lc.Succeeds u.lc := by
    unfold State.startPhotometer
    dsimp only
    split
    · split
      · exact .of_eq rfl
      · exact State.beginSensorFault_line _
    · exact .of_eq rfl
  unfold State.configComplete
  split
  · exact hbegun _
  · exact ((hstarted _).trans (State.fillSlot_line _ _ _)).within (hbegun _)

/-- Every command keeps the limits of the line controller. -/
theorem Effect.keepsLine {c : Instr} {s t : State} (h : Effect s c t) (hs : s.LineSound) : t.LineSound := by
  have hvacant (k : SlotId) : (Slots.empty.get k).attempts < 8 := by cases k <;> decide
  cases h with
  | move h => exact h.line.within hs
  | configured => exact State.configComplete_lineWithin (s := State.elapseTo _ _) hs _
  | powerOnReset => exact ⟨hvacant, Nat.zero_le _, Nat.zero_le _, Nat.zero_le _, (by decide : 0 < 55)⟩
  | lineReset =>
    obtain ⟨-, -, hdrops, hcrc, -⟩ := hs
    exact ⟨hvacant, min_le_right _ _, hdrops, hcrc, (by decide : 0 < 55)⟩

/-! ### The peer table -/

/-- The limits of the peer table at a station of address `own` (R21), said of the entries alone. -/
def TableWithin (own : Byte) (es : List Entry) : Prop :=
  es.length ≤ 32 ∧ es.Pairwise (fun x y => x.addr < y.addr) ∧ (∀ e ∈ es, e.addr ≠ 0 ∧ e.addr ≠ 255 ∧ e.addr ≠ own) ∧
    (es.filter Entry.reserved).length ≤ 2

/-- An empty table. -/
theorem tableWithin_nil (own : Byte) : TableWithin own [] := ⟨by simp, .nil, by simp, by simp⟩

/-- A change of an entry that keeps its address and its reservation. -/
def KeepsIdentity (g : Entry → Entry) : Prop := ∀ e, (g e).addr = e.addr ∧ (g e).reserved = e.reserved

/-- A change of one entry keeps the limits. -/
theorem TableWithin.updateEntry {own : Byte} {es : List Entry} (h : TableWithin own es) (a : Byte) {g : Entry → Entry}
    (hg : KeepsIdentity g) : TableWithin own (updateEntry es a g) := by
  have hkeep (e : Entry) : (if e.addr == a then g e else e).addr = e.addr ∧ (if e.addr == a then g e else e).reserved = e.reserved := by
    split
    · exact hg e
    · exact ⟨rfl, rfl⟩
  obtain ⟨hlen, hsorted, haddr, hreserved⟩ := h
  refine ⟨by simpa [Machine.updateEntry] using hlen, ?_, ?_, ?_⟩
  · exact List.pairwise_map.2 (hsorted.imp fun {x y} hxy => by rw [(hkeep x).1, (hkeep y).1]; exact hxy)
  · intro e he
    obtain ⟨x, hx, rfl⟩ := List.mem_map.1 he
    rw [(hkeep x).1]
    exact haddr x hx
  · rw [Machine.updateEntry, List.filter_map, List.length_map]
    exact (congrArg (fun q => (es.filter q).length) (funext fun e => (hkeep e).2)).trans_le hreserved

/-- An insertion is a rearrangement of the entry before the others. -/
theorem insertEntry_perm (e : Entry) : ∀ es : List Entry, (insertEntry e es).Perm (e :: es)
  | [] => .refl _
  | y :: rest => by
    unfold insertEntry
    split
    · exact .refl _
    · exact ((insertEntry_perm e rest).cons y).trans (.swap e y rest)

/-- A new ordinary entry at a place with room keeps the limits. -/
theorem TableWithin.insert {own : Byte} {es : List Entry} (h : TableWithin own es) (hroom : es.length < 32) {a : Byte}
    (ha : a ≠ 0 ∧ a ≠ 255 ∧ a ≠ own) (hnew : ∀ e ∈ es, e.addr ≠ a) (now : Time) :
    TableWithin own (insertEntry (newEntry a false now) es) := by
  obtain ⟨-, hsorted, haddr, hreserved⟩ := h
  refine ⟨by rw [length_insertEntry]; omega, pairwise_insertEntry hsorted hnew, fun e he => ?_, ?_⟩
  · rcases mem_insertEntry.1 he with rfl | he
    · exact ha
    · exact haddr e he
  · rw [((insertEntry_perm _ es).filter _).length_eq]
    simpa [newEntry] using hreserved

/-- A removal keeps the limits. -/
theorem TableWithin.remove {own : Byte} {es : List Entry} (h : TableWithin own es) (a : Byte) : TableWithin own (removeEntry es a) := by
  have hsub : (removeEntry es a).Sublist es := List.filter_sublist
  obtain ⟨hlen, hsorted, haddr, hreserved⟩ := h
  exact ⟨hsub.length_le.trans hlen, hsorted.sublist hsub, fun e he => haddr e (hsub.subset he),
    (hsub.filter _).length_le.trans hreserved⟩

/-- The removal of an entry the table holds makes room. -/
theorem length_removeEntry_lt {es : List Entry} {v : Entry} (hv : v ∈ es) : (removeEntry es v.addr).length < es.length :=
  List.length_filter_lt_length_iff_exists.2 ⟨v, hv, by simp⟩

/-- The victim of R35 is an entry of the table. -/
theorem State.victim_mem {s : State} {v : Entry} (h : s.victim = some v) : v ∈ s.pt.entries :=
  (List.mem_filter.1 (s.chooseVictim_mem h)).1

/-- Room made for an address keeps the limits (R34, R35). -/
theorem State.withRoomFor_within {s : State} {own src : Byte} {es : List Entry} (h : TableWithin own s.pt.entries)
    (hsrc : src ≠ 0 ∧ src ≠ 255 ∧ src ≠ own) (hnew : findEntry s.pt.entries src = none) (hroom : s.withRoomFor src = some es) :
    TableWithin own es := by
  rw [findEntry_none] at hnew
  unfold State.withRoomFor at hroom
  split at hroom
  · next hlt => cases hroom; exact h.insert hlt hsrc hnew _
  · obtain ⟨v, hv, rfl⟩ := Option.map_eq_some_iff.1 hroom
    refine (h.remove v.addr).insert ((length_removeEntry_lt (State.victim_mem hv)).trans_le h.1) hsrc ?_ _
    exact fun e he => hnew e (List.filter_sublist.subset he)

/-- The choice of a victim does not read the line controller. -/
theorem State.chooseVictim_withLine (s : State) (lc : LineControl) (es : List Entry) :
    ({ s with lc := lc } : State).chooseVictim es = s.chooseVictim es := by
  induction es with
  | nil => rfl
  | cons e rest ih => simp only [State.chooseVictim, ih]; rfl

/-- Making room does not read the line controller. -/
theorem State.withRoomFor_withLine (s : State) (lc : LineControl) (src : Byte) :
    ({ s with lc := lc } : State).withRoomFor src = s.withRoomFor src := by
  simp only [State.withRoomFor, State.victim, State.chooseVictim_withLine]
  rfl

/-- How the entries of the table can change in a move: not at all, one of them, or one made for a report's source. -/
def State.TableMoves (s t : State) : Prop :=
  t.pt.entries = s.pt.entries ∨
    (∃ a g, KeepsIdentity g ∧ t.pt.entries = updateEntry s.pt.entries a g) ∨
    ∃ src es g, KeepsIdentity g ∧ s.le.station.regulates = true ∧ (src ≠ 0 ∧ src ≠ 255 ∧ src ≠ s.line.address) ∧
      findEntry s.pt.entries src = none ∧ s.withRoomFor src = some es ∧ t.pt.entries = updateEntry es src g

/-- A frame applied to its entry. -/
theorem State.applyToEntry_tableMoves {s : State} (hreg : s.le.station.regulates = true) {src : Byte}
    (hsrc : src ≠ 0 ∧ src ≠ 255 ∧ src ≠ s.line.address) {g : Entry → Entry} (hg : KeepsIdentity g) :
    s.TableMoves (s.applyToEntry src g) := by
  rcases s.applyToEntry_cases src g with ⟨e, -, h⟩ | ⟨es, hnew, hroom, h⟩ | ⟨-, -, h⟩
  · exact .inr (.inl ⟨src, g, hg, by rw [h]⟩)
  · exact .inr (.inr ⟨src, es, g, hg, hreg, hsrc, hnew, hroom, by rw [h]⟩)
  · exact .inl (by rw [h]; rfl)

/-- A LEVEL, PORTAL or IDENT frame from another station at the peer table (R27 to R29). -/
theorem State.takeReport_tableMoves {s : State} {r : RawFrame} (hzero : r.src ≠ 0) (hother : r.src ≠ s.line.address) :
    s.TableMoves (s.takeLevel r) ∧ s.TableMoves (s.takePortal r) ∧ s.TableMoves (s.takeIdent r) := by
  refine ⟨?level, ?portal, ?ident⟩
  case level =>
    unfold State.takeLevel
    dsimp only
    split
    · next hreg =>
      split
      · exact .inl rfl
      next hbroadcast =>
      split
      · exact .inl rfl
      have happlied := State.applyToEntry_tableMoves hreg ⟨hzero, hbroadcast, hother⟩
        (g := fun e => e.withLevel (readLevel r.payload) r.tag s.now) fun _ => ⟨rfl, rfl⟩
      split <;> exact happlied
    · exact .inl rfl
  case portal =>
    unfold State.takePortal
    split
    · next hreg =>
      split
      · exact .inl rfl
      split
      · exact .inl rfl
      next hbroadcast =>
      split
      · exact .inl rfl
      · exact State.applyToEntry_tableMoves hreg ⟨hzero, hbroadcast, hother⟩ fun _ => ⟨rfl, rfl⟩
    · exact .inl rfl
  case ident =>
    unfold State.takeIdent
    split
    · next hreg =>
      split
      · exact .inl rfl
      next hbroadcast =>
      exact State.applyToEntry_tableMoves hreg ⟨hzero, hbroadcast, hother⟩ fun _ => ⟨rfl, rfl⟩
    · exact .inl rfl

/-- An ageing event keeps the identity of its entry. -/
theorem keepsIdentity_agePart (part : PartKind) (f : Freshness) : KeepsIdentity (·.agePart part f) := by
  cases part <;> exact fun _ => ⟨rfl, rfl⟩

/-- The entries of the table over a move. -/
theorem Move.tableMoves {c : Instr} {s t : State} (h : Move s c t) : s.TableMoves t := by
  cases h with
  | partAged a part f => exact .inr (.inl ⟨a, _, keepsIdentity_agePart part f, rfl⟩)
  | neighbourAged a part f => exact .inr (.inl ⟨a, _, keepsIdentity_agePart part f, rfl⟩)
  | entryAged a => exact .inr (.inl ⟨a, fun x => { x with agedOut := true }, fun _ => ⟨rfl, rfl⟩, rfl⟩)
  | entersRunning => exact .inl rfl
  | @accepted _ lc k r hheard hk hfrom hcheck =>
    have hline := State.line_of_heardFrom hheard
    obtain ⟨hzero, -, -, hother⟩ := checkFrame_accepted hcheck
    have hreports := State.takeReport_tableMoves (s := { s with lc := lc }) hzero (hline ▸ hother)
    unfold State.TableMoves at hreports ⊢
    simp only [hline, State.withRoomFor_withLine] at hreports
    obtain ⟨hlevel, hportal, hident⟩ := hreports
    cases k with
    | level => exact hlevel
    | portal => exact hportal
    | ident => exact hident
    | reset => exact absurd rfl hk
    | _ => exact .inl (by simp [State.dispatch])
  | _ => exact .inl (by simp)

/-- Every move keeps the limits of the peer table. -/
theorem Move.keepsTable {c : Instr} {s t : State} (h : Move s c t) (hs : s.TableSound) : t.TableSound := by
  obtain ⟨hlen, hsorted, haddr, hreserved, hoff⟩ := hs
  have hwithin : TableWithin s.line.address s.pt.entries := ⟨hlen, hsorted, haddr, hreserved⟩
  have hmoved : TableWithin s.line.address t.pt.entries ∧ (s.le.station.regulates = false → t.pt.entries = []) := by
    rcases h.tableMoves with heq | ⟨a, g, hg, heq⟩ | ⟨src, es, g, hg, hreg, hsrc, hnew, hroom, heq⟩
    · exact heq ▸ ⟨hwithin, hoff⟩
    · exact heq ▸ ⟨hwithin.updateEntry a hg, fun hst => by rw [hoff hst]; rfl⟩
    · refine heq ▸ ⟨(State.withRoomFor_within hwithin hsrc hnew hroom).updateEntry src hg, fun hst => ?_⟩
      rw [hst] at hreg
      cases hreg
  obtain ⟨⟨h1, h2, h3, h4⟩, h5⟩ := hmoved
  exact ⟨h1, h2, by rwa [h.line_eq], h4, by rwa [h.regulates]⟩

/-! ### The reserved entries (R26) -/

/-- The reserved entries rearrange the new entries of the neighbours. -/
theorem reservedEntries_perm (neighbours : List Byte) (now : Time) :
    (reservedEntries neighbours now).Perm (neighbours.map (newEntry · true now)) := by
  have hfold (acc : List Entry) :
      (neighbours.foldl (fun es a => insertEntry (newEntry a true now) es) acc).Perm
        (neighbours.map (newEntry · true now) ++ acc) := by
    induction neighbours generalizing acc with
    | nil => exact .refl _
    | cons a rest ih =>
      refine (ih _).trans (((insertEntry_perm _ acc).append_left _).trans ?_)
      exact List.perm_middle
  simpa [reservedEntries] using hfold []

/-- The reserved entries of distinct neighbours stand in the order of their addresses. -/
theorem reservedEntries_pairwise {neighbours : List Byte} (h : neighbours.Nodup) (now : Time) :
    (reservedEntries neighbours now).Pairwise (fun x y => x.addr < y.addr) := by
  have hfold (acc : List Entry) (hacc : acc.Pairwise fun x y => x.addr < y.addr)
      (hnew : ∀ a ∈ neighbours, ∀ x ∈ acc, x.addr ≠ a) :
      (neighbours.foldl (fun es a => insertEntry (newEntry a true now) es) acc).Pairwise fun x y => x.addr < y.addr := by
    induction neighbours generalizing acc with
    | nil => exact hacc
    | cons a rest ih =>
      obtain ⟨hhead, htail⟩ := List.nodup_cons.1 h
      refine ih htail _ (pairwise_insertEntry hacc (hnew a List.mem_cons_self)) fun b hb x hx => ?_
      rcases mem_insertEntry.1 hx with rfl | hx
      · rintro rfl
        exact hhead hb
      · exact hnew b (List.mem_cons_of_mem _ hb) x hx
  exact hfold [] .nil (by simp)

/-- The reserved entries of a good record lie within the limits (R26, R172). -/
theorem reservedEntries_within (p : List Byte) (now : Time) :
    TableWithin (byteAt p 0) (reservedEntries (usableNeighbours p) now) := by
  obtain ⟨hlen, hnodup, hnames⟩ := usableNeighbours_ok p
  have hperm := reservedEntries_perm (usableNeighbours p) now
  have htwo : (reservedEntries (usableNeighbours p) now).length ≤ 2 := by
    rw [hperm.length_eq, List.length_map]
    exact hlen
  refine ⟨htwo.trans (by decide), reservedEntries_pairwise hnodup now, fun e he => ?_, (List.length_filter_le _ _).trans htwo⟩
  obtain ⟨a, ha, rfl⟩ := List.mem_map.1 (hperm.mem_iff.1 he)
  exact hnames a ha

@[simp] theorem State.enterListening_entries (s : State) (r : Record) (b : Bool) :
    (s.enterListening r b).pt.entries = reservedEntries r.neighbours s.now := by
  simp [State.enterListening]

@[simp] theorem State.startPhotometer_params (s : State) : s.startPhotometer.lc.params = s.lc.params := by
  unfold State.startPhotometer
  dsimp only
  split
  · split
    · rfl
    · exact (State.beginSensorFault_line _).params
  · rfl

/-- The address in use after a good record is the record's (R173). -/
theorem State.enterListening_line (s : State) (r : Record) (b : Bool) :
    (s.enterListening r b).line = { address := r.address, mask := r.mask, rate := r.rate } := by
  have hparams : (s.enterListening r b).lc.params = some { address := r.address, mask := r.mask, rate := r.rate } := by
    unfold State.enterListening
    dsimp only
    rw [State.startPhotometer_params]
    exact (State.fillSlot_line _ _ _).params
  simp only [State.line, hparams, Option.getD_some]

/-- The completion of the read meets an empty table and leaves at most the reserved entries. -/
theorem State.configComplete_tableSound {s : State} (hs : s.TableSound) (hst : s.le.station = .configuring) (p : List Byte) :
    (s.configComplete p).TableSound := by
  obtain ⟨-, -, -, -, hoff⟩ := hs
  have hempty : s.pt.entries = [] := hoff (by rw [hst]; rfl)
  unfold State.configComplete
  split
  · have hentries : (s.enterFallback (fallbackLine p) (fallbackValues p) (fallbackTrim p)).pt.entries = [] := by simpa using hempty
    unfold State.TableSound
    rw [hentries]
    obtain ⟨h1, h2, h3, h4⟩ := tableWithin_nil (s.enterFallback (fallbackLine p) (fallbackValues p) (fallbackTrim p)).line.address
    exact ⟨h1, h2, h3, h4, fun _ => rfl⟩
  · have hwithin := reservedEntries_within p s.now
    unfold State.TableSound
    rw [State.enterListening_entries, State.enterListening_line, State.enterListening_le]
    obtain ⟨h1, h2, h3, h4⟩ := hwithin
    exact ⟨h1, h2, h3, h4, nofun⟩

/-- Every command keeps the limits of the peer table. -/
theorem Effect.keepsTable {c : Instr} {s t : State} (h : Effect s c t) (hs : s.TableSound) : t.TableSound := by
  have hempty (u : State) (hu : u.pt.entries = []) : u.TableSound := by
    unfold State.TableSound
    rw [hu]
    obtain ⟨h1, h2, h3, h4⟩ := tableWithin_nil u.line.address
    exact ⟨h1, h2, h3, h4, fun _ => rfl⟩
  cases h with
  | move h => exact h.keepsTable hs
  | configured _ _ hst => exact State.configComplete_tableSound (s := State.elapseTo _ _) hs hst _
  | powerOnReset => exact hempty _ rfl
  | lineReset => exact hempty _ rfl

/-! ### The override list -/

/-- The limits of one override entry (R101, R103). -/
def OverrideEntry.Within (e : OverrideEntry) : Prop :=
  1 ≤ e.remaining ∧ e.remaining ≤ 3600 ∧ e.source ≠ 0 ∧ e.source ≠ 255 ∧
    ((e.kind = .floor ∧ ∃ l ≤ 2000, e.floorLevel = some l) ∨ (e.kind ≠ .floor ∧ e.floorLevel = none))

/-- Two entries of different source or kind (R101). -/
def OverrideEntry.Distinct (x y : OverrideEntry) : Prop := ¬(x.source = y.source ∧ x.kind = y.kind)

/-- The limits of the override list, said of the entries alone. -/
def ListWithin (es : List OverrideEntry) : Prop :=
  es.length ≤ 4 ∧ es.Pairwise OverrideEntry.Distinct ∧ ∀ e ∈ es, e.Within

/-- Leaving entries out keeps the limits. -/
theorem ListWithin.sublist {es fs : List OverrideEntry} (h : ListWithin es) (hsub : fs.Sublist es) : ListWithin fs := by
  obtain ⟨hlen, hdistinct, hwithin⟩ := h
  exact ⟨hsub.length_le.trans hlen, hdistinct.sublist hsub, fun e he => hwithin e (hsub.subset he)⟩

/-- Changing entries without their sources and kinds keeps the limits, where each new entry lies within its own. -/
theorem ListWithin.filterMap {es : List OverrideEntry} (h : ListWithin es) {g : OverrideEntry → Option OverrideEntry}
    (hsame : ∀ x y, g x = some y → y.source = x.source ∧ y.kind = x.kind) (hg : ∀ x y, x.Within → g x = some y → y.Within) :
    ListWithin (es.filterMap g) := by
  obtain ⟨hlen, hdistinct, hwithin⟩ := h
  refine ⟨(List.length_filterMap_le g es).trans hlen, List.pairwise_filterMap.2 (hdistinct.imp fun {x y} hxy u hu v hv => ?_),
    fun e he => ?_⟩
  · obtain ⟨hus, huk⟩ := hsame x u hu
    obtain ⟨hvs, hvk⟩ := hsame y v hv
    unfold OverrideEntry.Distinct
    rwa [hus, huk, hvs, hvk]
  · obtain ⟨x, hx, hgx⟩ := List.mem_filterMap.1 he
    exact hg x e (hwithin x hx) hgx

/-- A new entry at the end of a list with room keeps the limits. -/
theorem ListWithin.append {es : List OverrideEntry} (h : ListWithin es) (hroom : es.length < 4) {e : OverrideEntry}
    (he : e.Within) (hnew : ∀ x ∈ es, x.Distinct e) : ListWithin (es ++ [e]) := by
  obtain ⟨hlen, hdistinct, hwithin⟩ := h
  refine ⟨by simp; omega, List.pairwise_append.2 ⟨hdistinct, List.pairwise_singleton _ _, ?_⟩, ?_⟩
  · simpa using hnew
  · simpa [or_imp, forall_and] using ⟨hwithin, he⟩

/-- A second passed keeps the limits of an entry (R102). -/
theorem OverrideEntry.within_secondPassed {x y : OverrideEntry} (hx : x.Within) {now : Time} (h : x.secondPassed now = some y) :
    y.Within := by
  obtain ⟨h1, h2, h3⟩ := hx
  unfold OverrideEntry.secondPassed at h
  split at h
  · cases h
  · cases h
    exact ⟨by dsimp only; omega, by dsimp only; omega, h3⟩

/-- A second passed keeps the source and the kind. -/
theorem OverrideEntry.same_of_secondPassed {x y : OverrideEntry} {now : Time} (h : x.secondPassed now = some y) :
    y.source = x.source ∧ y.kind = x.kind := by
  unfold OverrideEntry.secondPassed at h
  split at h <;> cases h
  exact ⟨rfl, rfl⟩

/-- An order's own entry lies within the limits (R103). -/
theorem overrideEntry_within_of_order {source : Byte} (hzero : source ≠ 0) (hbroadcast : source ≠ 255) (kind : OverrideKind)
    {f : OverrideFields} (hdur : f.duration ≠ 0) (now : Time) : (overrideEntry source kind f now).Within := by
  obtain ⟨h1, h2, h3⟩ := overrideEntry_within source kind f now hdur
  exact ⟨h1, h2, hzero, hbroadcast, h3⟩

/-- An order keeps the limits of the list (R104 to R107). -/
theorem State.takeOrder_listWithin {s : State} (h : ListWithin s.ol.entries) {source : Byte} (hzero : source ≠ 0)
    (hbroadcast : source ≠ 255) (kind : OverrideKind) {f : OverrideFields} (hdur : f.duration ≠ 0) :
    ListWithin (s.takeOrder source kind f).ol.entries := by
  have hentry := overrideEntry_within_of_order hzero hbroadcast kind hdur s.now
  unfold State.takeOrder
  dsimp only
  split
  · dsimp only
    rw [← List.filterMap_eq_map']
    refine h.filterMap (fun x y hxy => ?_) fun x y hx hxy => ?_
    · cases hxy
      split
      · next hm => exact ((x.matches_iff source kind).1 hm).imp Eq.symm Eq.symm
      · exact ⟨rfl, rfl⟩
    · cases hxy
      split
      · exact hentry
      · exact hx
  next hnone =>
  have hnew (x : OverrideEntry) (hx : x ∈ s.ol.entries) : x.Distinct (overrideEntry source kind f s.now) := fun hsame =>
    hnone (List.any_eq_true.2 ⟨x, hx, (x.matches_iff source kind).2 hsame⟩)
  split
  · next hroom =>
    rw [State.admitOverride_entries]
    exact h.append hroom hentry hnew
  split
  · next v hv =>
    have hmem : v ∈ s.ol.entries := (List.mem_filter.1 (chooseOverrideVictim_mem hv)).1
    have hsub : (s.ol.entries.filter fun x => !x.matches v.source v.kind).Sublist s.ol.entries := List.filter_sublist
    have hlt : (s.ol.entries.filter fun x => !x.matches v.source v.kind).length < s.ol.entries.length :=
      List.length_filter_lt_length_iff_exists.2 ⟨v, hmem, by simp [OverrideEntry.matches]⟩
    rw [State.admitOverride_entries]
    exact (h.sublist hsub).append (hlt.trans_le h.1) hentry fun x hx => hnew x (hsub.subset hx)
  · exact h

/-- An OVERRIDE keeps the limits of the list, and an empty list outside LISTENING and RUNNING (R103, R108). -/
theorem State.takeOverride_listWithin {s : State} (h : ListWithin s.ol.entries) {r : RawFrame} (hzero : r.src ≠ 0) :
    ListWithin (s.takeOverride r).ol.entries ∧ (s.le.station.regulates = false → (s.takeOverride r).ol = s.ol) := by
  unfold State.takeOverride
  split
  · next hreg =>
    refine ⟨?_, fun hst => by rw [hst] at hreg; cases hreg⟩
    split
    · exact h
    split
    · exact h
    split
    · exact h.sublist List.filter_sublist
    · next hbroadcast _ kind _ hdur => exact State.takeOrder_listWithin h hzero hbroadcast kind hdur
  · exact ⟨h, fun _ => rfl⟩

/-- Every move keeps the limits of the override list. -/
theorem Move.listWithin {c : Instr} {s t : State} (h : Move s c t) (hs : ListWithin s.ol.entries) :
    ListWithin t.ol.entries ∧ (s.le.station.regulates = false → s.ol.entries = [] → t.ol.entries = []) := by
  have hframe {u : State} (hu : u.ol.entries = s.ol.entries) :
      ListWithin u.ol.entries ∧ (s.le.station.regulates = false → s.ol.entries = [] → u.ol.entries = []) :=
    ⟨hu ▸ hs, fun _ hnil => hu.trans hnil⟩
  cases h with
  | secondPassed =>
    refine ⟨hs.filterMap (fun x y hxy => ?_) fun x y hx hxy => ?_, fun _ hnil => by simp [hnil]⟩
    · split at hxy
      · exact OverrideEntry.same_of_secondPassed hxy
      · cases hxy; exact ⟨rfl, rfl⟩
    · split at hxy
      · exact OverrideEntry.within_secondPassed hx hxy
      · cases hxy; exact hx
  | contactCloses =>
    refine hframe ?_
    rw [State.contactCloses_eq, State.contactActed]
    (repeat' split) <;> simp
  | contactOpens =>
    refine hframe ?_
    unfold State.contactOpens
    dsimp only
    split <;> rfl
  | @accepted _ lc k r hheard hk hfrom hcheck =>
    obtain ⟨hzero, -, -, -⟩ := checkFrame_accepted hcheck
    cases k with
    | override =>
      obtain ⟨hwithin, hoff⟩ := State.takeOverride_listWithin (s := { s with lc := lc }) hs hzero
      exact ⟨hwithin, fun hst hnil => (congrArg OverrideList.entries (hoff hst)).trans hnil⟩
    | reset => exact absurd rfl hk
    | _ => exact hframe (by simp [State.dispatch])
  | _ => exact hframe (by simp)

/-- Every command keeps the limits of the override list. -/
theorem Effect.keepsList {c : Instr} {s t : State} (h : Effect s c t) (hs : s.ListSound) : t.ListSound := by
  obtain ⟨h1, h2, h3, hoff⟩ := hs
  have hempty {u : State} (hu : u.ol.entries = []) : u.ListSound := by
    unfold State.ListSound
    rw [hu]
    exact ⟨by simp, .nil, by simp, fun _ => rfl⟩
  cases h with
  | move h =>
    obtain ⟨⟨g1, g2, g3⟩, hnil⟩ := h.listWithin ⟨h1, h2, h3⟩
    exact ⟨g1, g2, g3, fun hst => hnil (h.regulates ▸ hst) (hoff (h.regulates ▸ hst))⟩
  | configured _ _ hst => exact hempty (by simpa using hoff (by rw [hst]; rfl))
  | powerOnReset => exact hempty rfl
  | lineReset => exact hempty rfl

/-- Settles O58: an idle unit of the clock touches none of the three, and every command keeps the limits of each. -/
theorem stepKeepsTablesAndLine : Obligations.StepKeepsTablesAndLine := by
  intro s t htable hlist hline hstep
  rcases step_cases hstep with ⟨c, rest, -, hexec⟩ | rfl
  · have heffect := Effect.of_exec hexec
    exact ⟨heffect.keepsTable htable, heffect.keepsList hlist, heffect.keepsLine hline⟩
  · exact ⟨htable, hlist, hline⟩

end Sys2Proof.Machine
end

section
/-! PROOF. The limits of the output level and the channels (R84, R120, R126, R129, R132), of the photometer front end (R1, R7) and of the
trim (R54) over every command, and the lock-down; and every invariant right after a reset. -/

namespace Sys2Proof.Machine

/-! ### Channels within their limits -/

/-- What a computation needs of a channel: the limits of everything but its command and its open timer. -/
def Channel.Core (c : Channel) : Prop :=
  c.applied ≤ 10000 ∧ (c.state ≠ .driving → c.openMark = false) ∧ c.history.length ≤ 3 ∧ c.tripped < 64

theorem Channel.Sound.core {c : Channel} (h : c.Sound) : c.Core := by
  obtain ⟨-, happlied, hidle, -, hhistory, htripped⟩ := h
  exact ⟨happlied, fun hst => (hidle hst).2, hhistory, htripped⟩

/-- A command never exceeds full output when the level does not (R121). -/
theorem Channel.commandFor_le (c : Channel) (n h : Nat) {level : Nat} (hl : level ≤ 10000) : c.commandFor n h level ≤ 10000 := by
  unfold Channel.commandFor
  split
  · exact driveCommand_le n h level hl
  all_goals exact Nat.zero_le _

/-- A channel that is not DRIVING has no command (R121). -/
theorem Channel.commandFor_of_not_driving {c : Channel} (hc : c.state ≠ .driving) (n h level : Nat) : c.commandFor n h level = 0 := by
  unfold Channel.commandFor
  split
  · next hst => exact absurd hst hc
  all_goals rfl

/-- An open timer runs on a healthy channel only (R132). -/
theorem Channel.healthy_of_settledOpenTimer {c : Channel} {detecting : Bool} {now : Time} {command : Nat}
    (h : c.settledOpenTimer detecting now command ≠ none) : c.state = .driving ∧ c.openMark = false := by
  unfold Channel.settledOpenTimer at h
  split at h
  · next hon =>
    simp only [Bool.and_eq_true, Channel.healthy, beq_iff_eq, Bool.not_eq_true'] at hon
    exact hon.1.2
  · exact absurd rfl h

/-- A computation leaves a channel sound (R121, R132). -/
theorem Channel.recomputed_sound {c : Channel} (h : c.Core) (detecting : Bool) (now : Time) (n m : Nat) {level : Nat}
    (hl : level ≤ 10000) : (c.recomputed detecting now n m level).Sound := by
  obtain ⟨happlied, hidle, hhistory, htripped⟩ := h
  exact ⟨c.commandFor_le n m hl, happlied, fun hst => ⟨Channel.commandFor_of_not_driving hst n m level, hidle hst⟩,
    Channel.healthy_of_settledOpenTimer, hhistory, htripped⟩

theorem Channel.tripOut_core {c : Channel} (h : c.Core) (st : ChannelState) : (c.tripOut st).Core := by
  obtain ⟨happlied, -, hhistory, -⟩ := h
  exact ⟨happlied, fun _ => rfl, hhistory, (by decide : 0 < 64)⟩

theorem Channel.retryTrip_core {c : Channel} (h : c.Core) (now retryTime : Time) : (c.retryTrip now retryTime).Core := by
  unfold Channel.retryTrip
  split
  · next hroom =>
    obtain ⟨happlied, -, -, -⟩ := h
    refine ⟨happlied, fun _ => rfl, ?_, (by decide : 0 < 64)⟩
    rw [List.length_append]
    exact hroom
  · exact Channel.tripOut_core h _

theorem Channel.returned_core {c : Channel} (h : c.Core) : c.returned.Core := by
  obtain ⟨happlied, -, hhistory, -⟩ := h
  exact ⟨happlied, fun _ => rfl, hhistory, (by decide : 0 < 64)⟩

theorem Channel.cleared_core {c : Channel} (h : c.Core) (named : Bool) : (c.cleared named).Core := by
  unfold Channel.cleared
  split
  · obtain ⟨happlied, -, -, -⟩ := h
    exact ⟨happlied, fun _ => rfl, Nat.zero_le _, (by decide : 0 < 64)⟩
  · exact h

/-- A period start leaves a channel sound (R120, R126). -/
theorem Channel.Sound.periodStart {c : Channel} (h : c.Sound) (now : Time) : (c.periodStart now).Sound := by
  obtain ⟨hcommand, -, hidle, htimer, hhistory, htripped⟩ := h
  refine ⟨hcommand, hcommand, hidle, htimer, hhistory, ?_⟩
  simp only [Channel.periodStart]
  split
  · exact htripped
  · decide

/-! ### The channel block within its limits -/

/-- The limits of the channel block: the held level at most 10000 and every channel sound. -/
def ChannelBlock.Within (b : ChannelBlock) : Prop := (∀ l, b.held = some l → l ≤ 10000) ∧ ∀ k, (b.get k).Sound

/-- `new` can come after `old` in operation: the limits stay, and so does a block whose channels are all OFF. -/
structure ChannelBlock.Succeeds (new old : ChannelBlock) : Prop where
  within : old.Within → new.Within
  off : (∀ k, (old.get k).state = .off) → ∀ k, (new.get k).state = .off

theorem ChannelBlock.Succeeds.of_eq {new old : ChannelBlock} (h : new = old) : new.Succeeds old := h ▸ ⟨id, id⟩

/-- A computation from sound parts (R123). -/
theorem ChannelBlock.computed_within {b : ChannelBlock} (hheld : ∀ l, b.held = some l → l ≤ 10000) (hcore : ∀ k, (b.get k).Core)
    (st : StationState) (n : Nat) (now : Time) : (b.computed st n now).Within := by
  have hlevel : b.held.getD 0 ≤ 10000 := by
    cases hb : b.held with
    | none => exact Nat.zero_le _
    | some l => exact hheld l hb
  refine ⟨hheld, fun k => ?_⟩
  rw [ChannelBlock.get_computed]
  exact Channel.recomputed_sound (hcore k) _ _ _ _ hlevel

/-- A level of at most 10000 handed over (R123). -/
theorem State.handOver_channels (s : State) {level : Nat} (hl : level ≤ 10000) : (s.handOver level).ch.Succeeds s.ch where
  within := fun ⟨_, hsound⟩ => ChannelBlock.computed_within (b := { s.ch with held := some level }) (by rintro l ⟨⟩; exact hl)
    (fun k => by
      cases k
      exacts [(hsound .ch0).core, (hsound .ch1).core, (hsound .ch2).core, (hsound .ch3).core]) _ _ _
  off hoff k := by
    have hk := hoff k
    cases k <;> exact hk

/-- A channel that was not OFF changed, and the commands computed. -/
theorem State.setChannel_channels (s : State) {k : ChannelId} {c : Channel} (hst : (s.ch.get k).state ≠ .off)
    (hc : (s.ch.get k).Sound → c.Core) : (s.setChannel k c).computeCommands.ch.Succeeds s.ch where
  within := fun ⟨hheld, hsound⟩ => by
    refine ChannelBlock.computed_within (b := s.ch.set k c) (by simpa using hheld) (fun j => ?_) _ _ _
    rw [ChannelBlock.get_set]
    split
    · exact hc (hsound k)
    · exact (hsound j).core
  off hoff := absurd (hoff k) hst

/-- A channel changed in place, sound as before. -/
theorem ChannelBlock.set_succeeds (b : ChannelBlock) {k : ChannelId} {c : Channel} (hst : c.state = (b.get k).state)
    (hc : (b.get k).Sound → c.Sound) : (b.set k c).Succeeds b where
  within := fun ⟨hheld, hsound⟩ => by
    refine ⟨by simpa using hheld, fun j => ?_⟩
    rw [ChannelBlock.get_set]
    split
    · exact hc (hsound k)
    · exact hsound j
  off hoff j := by
    rw [ChannelBlock.get_set]
    split
    · rw [hst, hoff k]
    · exact hoff j

/-! ### Operations on the channel block -/

theorem State.beginFull_channels (s : State) : s.beginFull.ch.Succeeds s.ch := by
  unfold State.beginFull
  split
  · exact State.handOver_channels _ le_rfl
  · exact .of_eq rfl

theorem State.takeOverride_channels (s : State) (r : RawFrame) : (s.takeOverride r).ch.Succeeds s.ch := by
  have hadmit (kept : List OverrideEntry) (e : OverrideEntry) : (s.admitOverride kept e).ch.Succeeds s.ch := by
    unfold State.admitOverride
    dsimp only
    split
    · exact State.beginFull_channels _
    · exact .of_eq rfl
  unfold State.takeOverride
  split
  · split
    · exact .of_eq rfl
    split
    · exact .of_eq rfl
    split
    · exact .of_eq rfl
    unfold State.takeOrder
    dsimp only
    split
    · exact .of_eq rfl
    split
    · exact hadmit _ _
    split
    · exact hadmit _ _
    · exact .of_eq rfl
  · exact .of_eq rfl

theorem State.contactCloses_channels (s : State) : s.contactCloses.ch.Succeeds s.ch := by
  have hacted : s.contactActed.ch.Succeeds s.ch := by
    unfold State.contactActed
    split
    · exact .of_eq rfl
    · exact State.beginFull_channels _
  rw [State.contactCloses_eq]
  split <;> exact hacted

/-- A trip of a DRIVING channel. -/
theorem State.trip_channels (s : State) {k : ChannelId} (hdriving : (s.ch.get k).state = .driving) :
    (s.trip k).ch.Succeeds s.ch := by
  have hon : (s.ch.get k).state ≠ .off := by rw [hdriving]; decide
  unfold State.trip
  dsimp only
  split
  · split
    · next hbelow =>
      refine s.ch.set_succeeds rfl fun hsound => ?_
      obtain ⟨hcommand, happlied, hidle, htimer, hhistory, -⟩ := hsound
      exact ⟨hcommand, happlied, hidle, htimer, hhistory, hbelow⟩
    · exact s.setChannel_channels hon fun hsound => Channel.retryTrip_core hsound.core _ _
  · exact s.setChannel_channels hon fun hsound => Channel.retryTrip_core hsound.core _ _
  · exact s.setChannel_channels hon fun hsound => Channel.tripOut_core hsound.core _

/-- A pulse of load current in a DRIVING channel. -/
theorem State.loadCurrent_channels (s : State) {k : ChannelId} (hdriving : (s.ch.get k).state = .driving) :
    (s.loadCurrent k).ch.Succeeds s.ch := by
  have hon : (s.ch.get k).state ≠ .off := by rw [hdriving]; decide
  unfold State.loadCurrent
  dsimp only
  split
  · refine s.setChannel_channels hon fun hsound => ?_
    obtain ⟨happlied, -, hhistory, htripped⟩ := hsound.core
    exact ⟨happlied, fun _ => rfl, hhistory, htripped⟩
  split
  · next hclear _ =>
    refine s.ch.set_succeeds rfl fun hsound => ?_
    obtain ⟨hcommand, happlied, hidle, -, hhistory, htripped⟩ := hsound
    exact ⟨hcommand, happlied, hidle, fun _ => ⟨hdriving, by simpa using hclear⟩, hhistory, htripped⟩
  · exact .of_eq rfl

/-- The channel set of a CLEAR. -/
theorem State.clearChannels_channels (s : State) (f : ClearFields) : (s.clearChannels f).ch.Succeeds s.ch := by
  have hacts (k : ChannelId) (hk : (f.namesChannel k && (s.ch.get k).clearable) = true) : (s.ch.get k).state ≠ .off := by
    intro hoff
    simp [Channel.clearable, hoff] at hk
  unfold State.clearChannels
  dsimp only
  split
  · next hany =>
    obtain ⟨k, -, hk⟩ := List.any_eq_true.1 hany
    refine ⟨fun ⟨hheld, hsound⟩ => ?_, fun hoff => absurd (hoff k) (hacts k hk)⟩
    refine ChannelBlock.computed_within (b := s.ch.map fun k c => c.cleared (f.namesChannel k)) hheld (fun j => ?_) _ _ _
    rw [ChannelBlock.get_map]
    exact Channel.cleared_core (hsound j).core _
  · next hnone =>
    have hsame (k : ChannelId) : (s.ch.map fun k c => c.cleared (f.namesChannel k)).get k = s.ch.get k := by
      rw [ChannelBlock.get_map, Channel.cleared, if_neg fun hk => hnone (List.any_eq_true.2 ⟨k, mem_allChannels k, hk⟩)]
    exact ⟨fun ⟨hheld, hsound⟩ => ⟨hheld, fun k => hsame k ▸ hsound k⟩, fun hoff k => hsame k ▸ hoff k⟩

/-! ### The output level and the channels over every command -/

/-- The limits of the output level and of the channels, without the clause of CONFIGURING. -/
def State.OutputWithin (s : State) : Prop := s.le.level ≤ 10000 ∧ s.le.target ≤ 10000 ∧ s.ch.Within

/-- What RUNNING makes of the target: full, or the required level (R84, R86, R87). -/
theorem LevelEngine.regulated_within {e : LevelEngine} {d : Demand} (hlevel : e.level ≤ 10000) (hd : d.required.getD 0 ≤ 10000)
    (full hold : Bool) (cfg : Record) :
    (e.regulated d full hold cfg).level ≤ 10000 ∧ (e.regulated d full hold cfg).target ≤ 10000 := by
  unfold LevelEngine.regulated
  dsimp only
  split
  · exact ⟨le_rfl, le_rfl⟩
  split
  · exact ⟨hlevel, hd⟩
  · exact ⟨(slew_between ..).2.trans (max_le hlevel hd), hd⟩

/-- The end of a level update leaves the channels. -/
theorem State.report_ch_eq (s : State) (y : Nat) : (s.report y).ch = s.ch := by simp

/-- A level update keeps the limits (R84). -/
theorem State.levelUpdate_outputWithin {s : State} (h : s.OutputWithin) : s.levelUpdate.OutputWithin := by
  obtain ⟨hlevel, htarget, hch⟩ := h
  have hupdate (d : State) (hd : d.ch = s.ch) (le : LevelEngine) (hle : le.level ≤ 10000 ∧ le.target ≤ 10000) (y : Nat) :
      ((({ d with le := le } : State).handOver le.level).report y).OutputWithin := by
    obtain ⟨hl, ht, -⟩ := State.report_le (({ d with le := le } : State).handOver le.level) y
    refine ⟨hl.trans_le hle.1, ht.trans_le hle.2, ?_⟩
    rw [State.report_ch_eq]
    exact (State.handOver_channels _ hle.1).within (hd ▸ hch)
  unfold State.levelUpdate
  split
  · exact ⟨hlevel, htarget, hch⟩
  · exact hupdate s.formDemand rfl _ ⟨le_rfl, le_rfl⟩ _
  · exact hupdate s.formDemand rfl _ (LevelEngine.regulated_within (d := s.formDemand.dc) hlevel (requiredLevel_le _ _) _ _ _) _
  · exact hupdate s rfl _ ⟨le_rfl, le_rfl⟩ _

/-- Every move keeps the limits of the level and the target. -/
theorem Move.keepsLevel {c : Instr} {s t : State} (h : Move s c t) (hs : s.OutputWithin) : t.le.level ≤ 10000 ∧ t.le.target ≤ 10000 := by
  obtain ⟨hlevel, htarget, -⟩ := id hs
  have hkept {u : State} (hl : u.le.level = s.le.level) (ht : u.le.target = s.le.target) : u.le.level ≤ 10000 ∧ u.le.target ≤ 10000 :=
    ⟨hl.trans_le hlevel, ht.trans_le htarget⟩
  have hfull {u : State} (hu : u.le = s.le ∨ u.le = s.le.atFull) : u.le.level ≤ 10000 ∧ u.le.target ≤ 10000 := by
    rcases hu with h | h
    · exact hkept (by rw [h]) (by rw [h])
    · rw [h]; exact ⟨le_rfl, le_rfl⟩
  cases h with
  | levelUpdated =>
    obtain ⟨h1, h2, -⟩ := State.levelUpdate_outputWithin (s := { s.elapseTo _ with le := { s.le with updateTimer := some (max s.now _ + updatePeriod) } }) hs
    exact ⟨h1, h2⟩
  | contactCloses => exact hfull (State.contactCloses_le _)
  | contentSent => exact hkept (State.finishSending_le _ _).1 (State.finishSending_le _ _).2.1
  | readBack => exact hkept (State.readBackCharacter_le ..).1 (State.readBackCharacter_le ..).2.1
  | @accepted _ lc k r _ hk _ _ =>
    cases k with
    | override => exact hfull (State.takeOverride_le _ r)
    | reset => exact absurd rfl hk
    | _ => exact hkept (by simp [State.dispatch]) (by simp [State.dispatch])
  | _ => exact hkept (by simp) (by simp)

/-- A level update leaves the state of every channel. -/
theorem State.levelUpdate_channelState (s : State) (k : ChannelId) : (s.levelUpdate.ch.get k).state = (s.ch.get k).state := by
  have hupdate (d : State) (hd : d.ch = s.ch) (le : LevelEngine) (level y : Nat) :
      (((({ d with le := le } : State).handOver level).report y).ch.get k).state = (s.ch.get k).state := by
    rw [State.report_ch_eq, ← hd]
    cases k <;> rfl
  unfold State.levelUpdate
  split
  · rfl
  · exact hupdate s.formDemand rfl _ _ _
  · exact hupdate s.formDemand rfl _ _ _
  · exact hupdate s rfl _ _ _

/-- Every move keeps the limits of the channels, and a block whose channels are all OFF. -/
theorem Move.channels {c : Instr} {s t : State} (h : Move s c t) (hs : s.OutputWithin) : t.ch.Succeeds s.ch := by
  obtain ⟨-, -, hch⟩ := id hs
  cases h with
  | @levelUpdated due =>
    let timed : State := { s.elapseTo due with le := { s.le with updateTimer := some (max s.now due + updatePeriod) } }
    obtain ⟨-, -, hwithin⟩ := State.levelUpdate_outputWithin (s := timed) hs
    exact ⟨fun _ => hwithin, fun hoff k => (timed.levelUpdate_channelState k).trans (hoff k)⟩
  | contactCloses => exact State.contactCloses_channels _
  | periodStarts =>
    exact ⟨fun ⟨hheld, hsound⟩ => ⟨hheld, fun k => by
      cases k
      exacts [(hsound .ch0).periodStart _, (hsound .ch1).periodStart _, (hsound .ch2).periodStart _, (hsound .ch3).periodStart _]⟩,
      fun hoff k => by have hk := hoff k; cases k <;> exact hk⟩
  | @tripped k due hdriving => exact State.trip_channels (s.elapseTo due) hdriving
  | @retried k due _ hwait =>
    refine State.setChannel_channels (s.elapseTo due) (k := k) ?_ fun hsound => Channel.returned_core hsound.core
    rw [State.elapseTo_ch, hwait]
    decide
  | @tripForgotten k taken rest hhist =>
    refine s.ch.set_succeeds (k := k) rfl fun hsound => ?_
    obtain ⟨hcommand, happlied, hidle, htimer, hhistory, htripped⟩ := hsound
    rw [hhist] at hhistory
    exact ⟨hcommand, happlied, hidle, htimer, (Nat.le_succ _).trans hhistory, htripped⟩
  | @foundOpen k due hdue =>
    obtain ⟨-, -, -, htimer, -, -⟩ := hch.2 k
    obtain ⟨hdriving, -⟩ := htimer (by simp [hdue])
    refine State.setChannel_channels (s.elapseTo due) (k := k) ?_ fun hsound => ?_
    · rw [State.elapseTo_ch, hdriving]
      decide
    · obtain ⟨happlied, -, hhistory, htripped⟩ := hsound.core
      exact ⟨happlied, fun hst => absurd hdriving hst, hhistory, htripped⟩
  | currentSensed hdriving => exact State.loadCurrent_channels s hdriving
  | @accepted _ lc k r _ hk _ _ =>
    cases k with
    | override => exact State.takeOverride_channels _ r
    | clear => exact State.clearChannels_channels _ _
    | reset => exact absurd rfl hk
    | _ => exact .of_eq (by simp [State.dispatch])
  | _ => exact .of_eq (by simp)

/-- The start of operation leaves sound channels (R119, R121). -/
theorem ChannelBlock.energised_core {b : ChannelBlock} (h : ∀ k, (b.get k).Sound) (n : Nat) (k : ChannelId) :
    ((b.energised n).get k).Core := by
  rw [ChannelBlock.get_energised]
  split
  · exact ⟨Nat.zero_le _, fun _ => rfl, Nat.zero_le _, (by decide : 0 < 64)⟩
  · exact (h k).core

/-- The completion of the read keeps the limits of the output. -/
theorem State.configComplete_outputWithin {s : State} (h : s.OutputWithin) (p : List Byte) : (s.configComplete p).OutputWithin := by
  obtain ⟨-, -, -, hsound⟩ := h
  have hfull (u : State) (n : Nat) (hu : u.ch = s.ch.energised n) : (u.handOver fullLevel).ch.Within :=
    ChannelBlock.computed_within (b := { u.ch with held := some fullLevel }) (by rintro l ⟨⟩; exact le_rfl)
      (fun k => by
        have hk := ChannelBlock.energised_core hsound n k
        rw [← hu] at hk
        cases k <;> exact hk) _ _ _
  obtain ⟨hlevel, htarget⟩ := s.configComplete_level p
  refine ⟨hlevel.le, htarget.le, ?_⟩
  unfold State.configComplete
  split
  · exact hfull _ 4 rfl
  · unfold State.enterListening
    simp only [State.startPhotometer_ch, State.fillIdent_ch]
    exact hfull _ _ rfl

/-- The reset values of the output lie within the limits (R100, R137). -/
theorem State.atResetValues_outputSound (s : State) (lock : Bool) (n m e : Nat) (started : Bool) :
    (s.atResetValues lock n m e started).OutputSound := by
  refine ⟨le_rfl, le_rfl, by rintro l ⟨⟩, fun k => ?_, fun _ k => by cases k <;> rfl⟩
  cases k <;> exact ⟨Nat.zero_le _, Nat.zero_le _, fun _ => ⟨rfl, rfl⟩, fun h => absurd rfl h, Nat.zero_le _, (by decide : 0 < 64)⟩

/-- Every effect of a command keeps the output and the channels sound (R84, R120). -/
theorem Effect.keepsOutput {c : Instr} {s t : State} (h : Effect s c t) (hs : s.OutputSound) : t.OutputSound := by
  obtain ⟨hlevel, htarget, hheld, hsound, hoff⟩ := hs
  have hwithin : s.OutputWithin := ⟨hlevel, htarget, hheld, hsound⟩
  cases h with
  | move hmove =>
    obtain ⟨hl, ht⟩ := hmove.keepsLevel hwithin
    obtain ⟨hstill, hstays⟩ := hmove.channels hwithin
    obtain ⟨hh, hsnd⟩ := hstill ⟨hheld, hsound⟩
    refine ⟨hl, ht, hh, hsnd, fun hst => hstays (hoff ?_)⟩
    rcases hmove.station with heq | ⟨-, -, hrun⟩
    · rw [← heq, hst]
    · rw [hst] at hrun
      cases hrun
  | @configured image due _ _ _ =>
    obtain ⟨hl, ht, hh, hsnd⟩ := State.configComplete_outputWithin (s := s.elapseTo due) hwithin (recordImage image)
    refine ⟨hl, ht, hh, hsnd, fun hst => ?_⟩
    rw [State.configComplete] at hst
    split at hst <;> simp at hst
  | powerOnReset => exact State.atResetValues_outputSound ..
  | lineReset => exact State.atResetValues_outputSound ..

/-! ### The photometer front end -/

/-- The limits of the front end (R1, R7), without the clause of the front end that is off. -/
def Photometer.Within (p : Photometer) : Prop :=
  p.window.length ≤ 3 ∧ (∀ x ∈ p.window, x.luminance ≤ 16000 ∧ x.gain = p.gain) ∧ (∀ l, p.reading = some l → l ≤ 16000) ∧
    p.lastReported ≤ 16000 ∧ (p.sensorFault = true → p.window = [] ∧ p.reading = none ∧ p.saturated = false)

/-- The front end at rest, as it is while it is off (R1). -/
def Photometer.AtRest (p : Photometer) : Prop :=
  p.sampleTimer = none ∧ p.recoveryTimer = none ∧ p.reportTimer = none ∧ p.reading = none ∧ p.sensorFault = false ∧
    p.saturated = false ∧ p.gain = .g16 ∧ p.window = []

theorem State.frontEndSound_iff (s : State) : s.FrontEndSound ↔ s.pfe.Within ∧ (s.pfeOn = false → s.pfe.AtRest) := by
  simp only [State.FrontEndSound, Photometer.Within, Photometer.AtRest, and_assoc]

/-- A conversion is at most 16000 (R3). -/
theorem convert_le (count fullScale : Nat) (g : Gain) : convert count fullScale g ≤ 16000 := Nat.min_le_right _ _

/-- The reading formed from a window is at most its largest sample (R8). -/
theorem formReading_le {w : List Sample} {m l : Nat} (hw : ∀ x ∈ w, x.luminance ≤ m) (h : formReading w = some l) : l ≤ m := by
  match w, h with
  | [x], h =>
    have hx := hw x (by simp)
    simp only [formReading, Option.some.injEq] at h
    omega
  | [x, y], h =>
    have hx := hw x (by simp)
    have hy := hw y (by simp)
    simp only [formReading, Option.some.injEq] at h
    omega
  | [x, y, z], h =>
    have hx := hw x (by simp)
    have hy := hw y (by simp)
    have hz := hw z (by simp)
    simp only [formReading, median3, Option.some.injEq] at h
    omega

/-- A sample joins the end of a window cut to three (R7). -/
theorem length_joinWindow_le (w : List Sample) (x : Sample) : (joinWindow w x).length ≤ 3 := by
  rw [joinWindow, List.length_drop]
  omega

theorem mem_joinWindow {w : List Sample} {x y : Sample} (h : y ∈ joinWindow w x) : y ∈ w ∨ y = x := by
  simpa using List.mem_of_mem_drop h

/-- What a placement writes into the front end (R15 to R17). -/
theorem State.placePortal_pfe (s : State) :
    s.placePortal.pfe = { s.pfe with tag := s.pfe.tag + 1, lastReported := s.portalFields.luminance, placedAt := s.now,
                                     reportTimer := some (s.now + ms s.reportPeriod) } := rfl

theorem State.portalFields_luminance_le {s : State} (h : s.pfe.Within) : s.portalFields.luminance ≤ 16000 := by
  obtain ⟨-, -, hreading, -, -⟩ := h
  simp only [State.portalFields]
  split
  · exact Nat.zero_le _
  · cases hr : s.pfe.reading with
    | none => exact Nat.zero_le _
    | some l => exact hreading l hr

theorem State.placePortal_frontEnd {s : State} (h : s.pfe.Within) : s.placePortal.pfe.Within := by
  have hle := State.portalFields_luminance_le h
  obtain ⟨hlength, hwindow, hreading, -, hfault⟩ := h
  exact ⟨hlength, hwindow, hreading, hle, hfault⟩

theorem State.earlyPortal_frontEnd {s : State} (h : s.pfe.Within) (l : Nat) : (s.earlyPortal l).pfe.Within := by
  unfold State.earlyPortal
  split
  · exact State.placePortal_frontEnd h
  · exact h

theorem State.portalReport_frontEnd {s : State} (h : s.pfe.Within) : s.portalReport.pfe.Within := by
  unfold State.portalReport
  split
  · exact State.placePortal_frontEnd h
  · exact h

theorem State.beginSensorFault_frontEnd {s : State} (h : s.pfe.Within) : s.beginSensorFault.pfe.Within := by
  obtain ⟨-, -, -, hreported, -⟩ := h
  refine State.earlyPortal_frontEnd (s := (State.raiseIf _ true .sensorFault)) ?_ 0
  exact ⟨Nat.zero_le _, by rintro x ⟨⟩, by rintro l ⟨⟩, hreported, fun _ => ⟨rfl, rfl, rfl⟩⟩

theorem State.keepSample_frontEnd {s : State} (h : s.pfe.Within) (habsent : s.pfe.sensorFault = false) (count : Nat)
    (saturated : Bool) : (s.keepSample count saturated).pfe.Within := by
  obtain ⟨-, hwindow, -, hreported, -⟩ := h
  unfold State.keepSample
  refine State.earlyPortal_frontEnd ?_ _
  have hjoined : ∀ x ∈ joinWindow s.pfe.window { luminance := convert count s.cfg.fullScale s.pfe.gain, saturated, gain := s.pfe.gain },
      x.luminance ≤ 16000 ∧ x.gain = s.pfe.gain := by
    intro x hx
    rcases mem_joinWindow hx with hx | rfl
    · exact hwindow x hx
    · exact ⟨convert_le .., rfl⟩
  exact ⟨length_joinWindow_le _ _, hjoined, fun l hl => formReading_le (fun x hx => (hjoined x hx).1) hl, hreported,
    fun hfault => absurd hfault (by simp [Photometer.keep, habsent])⟩

theorem State.sampleInstant_frontEnd {s : State} (h : s.pfe.Within) (count : Nat) : (s.sampleInstant count).pfe.Within := by
  unfold State.sampleInstant
  dsimp only
  split
  · exact h
  next hfault =>
  have habsent : s.pfe.sensorFault = false := by simpa using hfault
  have hkept (saturated : Bool) := State.keepSample_frontEnd
    (s := { s with pfe := { s.pfe with sampleTimer := some (s.now + ms s.cfg.samplePeriod) } }) h habsent count saturated
  have hemptied {p : Photometer} (hp : p.Within) (hpf : p.sensorFault = false) (g : Gain) :
      ({ p with gain := g, window := [] } : Photometer).Within := by
    obtain ⟨-, -, hreading, hreported, -⟩ := hp
    exact ⟨Nat.zero_le _, by rintro x ⟨⟩, hreading, hreported, fun hf => absurd hf (by simp [hpf])⟩
  unfold State.takeConversion
  split
  · exact hemptied (p := { s.pfe with sampleTimer := _ }) h habsent _
  · exact hkept true
  · exact hkept false
  · exact hemptied (hkept false) (by simp [habsent]) _

theorem State.noteSent_frontEnd (s : State) (k : SlotId) : (s.noteSent k).pfe = s.pfe ∨
    (s.noteSent k).pfe = { s.pfe with restartPending := false } := by
  cases k with
  | portal => exact .inr rfl
  | override => exact .inl rfl
  | level => exact .inl rfl
  | ident => exact .inl rfl

theorem State.readBackCharacter_frontEnd (s : State) (a : Attempt) (start : Time) (sent : Nat) (c : LineChar) :
    (s.readBackCharacter a start sent c).pfe = s.pfe ∨
      (s.readBackCharacter a start sent c).pfe = { s.pfe with restartPending := false } := by
  have hcollide (u : State) (hu : u.pfe = s.pfe) : (u.collide a).pfe = s.pfe := by
    unfold State.collide
    dsimp only
    split <;> exact hu
  unfold State.readBackCharacter
  dsimp only
  split
  · split
    · split
      · exact .inl rfl
      · exact State.noteSent_frontEnd _ a.slot
    · exact .inl (hcollide _ rfl)
  · exact State.noteSent_frontEnd _ a.slot

/-- Every move keeps the front end within its limits, and at rest while it is off. -/
theorem Move.frontEnd {c : Instr} {s t : State} (h : Move s c t) :
    (s.pfe.Within → t.pfe.Within) ∧ (s.pfeOn = false → s.pfe.AtRest → t.pfe.AtRest) := by
  have hkept {u : State} (hu : u.pfe = s.pfe) : (s.pfe.Within → u.pfe.Within) ∧ (s.pfeOn = false → s.pfe.AtRest → u.pfe.AtRest) := by
    rw [hu]
    exact ⟨id, fun _ => id⟩
  have hsent {u : State} (hu : u.pfe = s.pfe ∨ u.pfe = { s.pfe with restartPending := false }) :
      (s.pfe.Within → u.pfe.Within) ∧ (s.pfeOn = false → s.pfe.AtRest → u.pfe.AtRest) := by
    rcases hu with hu | hu
    · exact hkept hu
    · rw [hu]
      exact ⟨id, fun _ => id⟩
  cases h with
  | @sampled count due hdue =>
    exact ⟨fun hw => State.sampleInstant_frontEnd (s := s.elapseTo due) hw _, fun _ hrest => absurd hdue (by simp [hrest.1])⟩
  | faultBegins hon _ =>
    exact ⟨fun hw => State.beginSensorFault_frontEnd (s := { s with phinInBand := false }) hw, fun hoff => absurd hon (by simp [hoff])⟩
  | recoveryStops hon => exact ⟨id, fun hoff => absurd hon (by simp [hoff])⟩
  | recoveryStarts hon => exact ⟨id, fun hoff => absurd hon (by simp [hoff])⟩
  | recovered hdue =>
    refine ⟨fun ⟨hlength, hwindow, hreading, hreported, _⟩ => ⟨hlength, hwindow, hreading, hreported, by rintro ⟨⟩⟩, ?_⟩
    rintro - ⟨-, hrecovery, -⟩
    exact absurd hdue (by simp [hrecovery])
  | @portalReported due hdue =>
    refine ⟨fun hw => State.portalReport_frontEnd (s := s.elapseTo due) hw, ?_⟩
    rintro - ⟨-, -, hreport, -⟩
    exact absurd hdue (by simp [hreport])
  | @contentSent a _ _ at' _ _ => exact hsent (State.noteSent_frontEnd _ a.slot)
  | readBack => exact hsent (State.readBackCharacter_frontEnd ..)
  | @accepted _ lc k r _ hk _ _ =>
    cases k with
    | reset => exact absurd rfl hk
    | _ => exact hkept (by simp [State.dispatch])
  | _ => exact hkept (by simp)

/-- No move changes what the loader holds. -/
theorem Move.loader {c : Instr} {s t : State} (h : Move s c t) : t.cl = s.cl := by
  cases h with
  | @accepted _ lc k r _ hk _ _ =>
    cases k with
    | reset => exact absurd rfl hk
    | _ => simp [State.dispatch]
  | _ => simp

theorem Move.pfeOn {c : Instr} {s t : State} (h : Move s c t) : t.pfeOn = s.pfeOn := by
  simp only [State.pfeOn, State.cfg, h.regulates, h.loader]

/-- The entry to LISTENING starts the front end where it is on, and otherwise leaves it as it was (R2, R14). -/
theorem State.startPhotometer_frontEnd {s : State} (h : s.pfe.Within) :
    s.startPhotometer.pfe.Within ∧ (s.pfeOn = false → s.startPhotometer.pfe = s.pfe) := by
  unfold State.startPhotometer
  split
  · next hon =>
    refine ⟨?_, fun hoff => absurd hon (by simp [hoff])⟩
    dsimp only
    split
    · exact h
    · exact State.beginSensorFault_frontEnd (s := { s with pfe := { s.pfe with sampleTimer := _, reportTimer := _, placedAt := _ } }) h
  · exact ⟨h, fun _ => rfl⟩

/-- The front end is off in CONFIGURING (R1). -/
theorem State.pfeOn_of_configuring {s : State} (h : s.le.station = .configuring) : s.pfeOn = false := by
  simp [State.pfeOn, h, StationState.regulates]

/-- The state once the record has been handed over, before the level, the IDENT and the photometer of the entry to LISTENING (R173). -/
def State.loaded (s : State) (r : Record) (corrected : Bool) : State :=
  { s with
    cl := { readDue := none, record := some r, fallback := none, configFault := corrected },
    fr := s.fr.configured r.alarmMask corrected,
    lc := s.lc.begin { address := r.address, mask := r.mask, rate := r.rate } s.now,
    dc := { s.dc with trim := r.trimDefault, ratioA := some (stationRatio r.profile r.distanceA),
                      ratioB := r.distanceB.map (stationRatio r.profile) },
    pt := { s.pt with entries := reservedEntries r.neighbours s.now },
    le := { s.le with station := .listening, level := fullLevel, target := fullLevel,
                      listeningTimer := some (s.now + ms (2 * r.staleTime)) },
    ch := s.ch.energised r.channelCount }

theorem State.enterListening_eq (s : State) (r : Record) (corrected : Bool) :
    s.enterListening r corrected = (((s.loaded r corrected).handOver fullLevel).fillIdent 255).startPhotometer := rfl

/-- The completion of the read keeps the front end sound (R1, R2). -/
theorem State.configComplete_frontEndSound {s : State} (hs : s.FrontEndSound) (hst : s.le.station = .configuring) (p : List Byte) :
    (s.configComplete p).FrontEndSound := by
  rw [State.frontEndSound_iff] at hs ⊢
  obtain ⟨hwithin, hrest⟩ := hs
  unfold State.configComplete
  split
  · exact ⟨hwithin, fun _ => hrest (State.pfeOn_of_configuring hst)⟩
  · rw [State.enterListening_eq]
    obtain ⟨hstarted, hoff⟩ := State.startPhotometer_frontEnd
      (s := ((s.loaded (correctedRecord p) (needsCorrection p)).handOver fullLevel).fillIdent 255) hwithin
    refine ⟨hstarted, fun hpfe => ?_⟩
    rw [State.pfeOn, State.cfg, State.startPhotometer_le, State.startPhotometer_cl] at hpfe
    rw [hoff hpfe]
    exact hrest (State.pfeOn_of_configuring hst)

/-- The reset values of the front end lie within the limits, and at rest (R19). -/
theorem State.atResetValues_frontEndSound (s : State) (lock : Bool) (n m e : Nat) (started : Bool) :
    (s.atResetValues lock n m e started).FrontEndSound :=
  ⟨Nat.zero_le _, by rintro x ⟨⟩, by rintro l ⟨⟩, Nat.zero_le _, by rintro ⟨⟩, fun _ => ⟨rfl, rfl, rfl, rfl, rfl, rfl, rfl, rfl⟩⟩

/-- Every effect of a command keeps the front end sound (R1, R7). -/
theorem Effect.keepsFrontEnd {c : Instr} {s t : State} (h : Effect s c t) (hs : s.FrontEndSound) : t.FrontEndSound := by
  cases h with
  | move hmove =>
    rw [State.frontEndSound_iff] at hs ⊢
    obtain ⟨hwithin, hrest⟩ := hmove.frontEnd
    exact ⟨hwithin hs.1, fun hoff => hrest (hmove.pfeOn ▸ hoff) (hs.2 (hmove.pfeOn ▸ hoff))⟩
  | @configured image due _ _ hst => exact State.configComplete_frontEndSound (s := s.elapseTo due) hs hst _
  | powerOnReset => exact State.atResetValues_frontEndSound ..
  | lineReset => exact State.atResetValues_frontEndSound ..

/-! ### The trim and the lock-down -/

/-- The limits of the trim (R54). -/
def Demand.TrimWithin (d : Demand) : Prop :=
  800 ≤ d.trim ∧ d.trim ≤ 1200 ∧ ∀ t, d.pendingTrim = some t → 800 ≤ t ∧ t ≤ 1200

/-- `new` can come after `old` in operation: the trim stays within its limits and the lock-down engaged. -/
structure Demand.Succeeds (new old : Demand) : Prop where
  within : old.TrimWithin → new.TrimWithin
  locked : old.lockDown = true → new.lockDown = true

theorem Demand.Succeeds.of_eq {new old : Demand} (h : new = old) : new.Succeeds old := h ▸ ⟨id, id⟩

/-- A value brought into a range lies in it. -/
theorem clampTo_within {lo hi : Nat} (h : lo ≤ hi) (v : Nat) : lo ≤ clampTo lo hi v ∧ clampTo lo hi v ≤ hi := by
  unfold clampTo
  omega

/-- A level update takes a pending trim up (R54). -/
theorem State.formDemand_trim (s : State) : s.formDemand.dc.Succeeds s.dc where
  within := fun ⟨hlo, hhi, hpending⟩ => by
    have htaken : 800 ≤ s.dc.trimInForce ∧ s.dc.trimInForce ≤ 1200 := by
      unfold Demand.trimInForce
      cases hp : s.dc.pendingTrim with
      | none => exact ⟨hlo, hhi⟩
      | some t => exact hpending t hp
    exact ⟨htaken.1, htaken.2, by rintro t ⟨⟩⟩
  locked := id

theorem State.levelUpdate_trim (s : State) : s.levelUpdate.dc.Succeeds s.dc := by
  unfold State.levelUpdate
  split
  · exact .of_eq rfl
  · simpa [State.updateListening] using s.formDemand_trim
  · simpa [State.updateRunning] using s.formDemand_trim
  · exact .of_eq (by simp [State.updateFallback])

/-- A TRIM taken is clamped, and engages the lock-down or leaves it (R55 to R57). -/
theorem State.takeTrim_trim (s : State) (r : RawFrame) : (s.takeTrim r).dc.Succeeds s.dc := by
  unfold State.takeTrim
  split
  · split
    · exact .of_eq rfl
    · exact ⟨fun ⟨hlo, hhi, _⟩ => ⟨hlo, hhi, by rintro t ⟨⟩; exact clampTo_within (by decide) _⟩, fun hlock => by simp [hlock]⟩
  · exact .of_eq rfl

/-- The record, or its absence, gives a trim within the limits and leaves the lock-down (R54, R172, R173). -/
theorem State.configComplete_trim (s : State) (p : List Byte) : (s.configComplete p).dc.Succeeds s.dc := by
  have hset {d : Demand} {n : Nat} (hn : 800 ≤ n ∧ n ≤ 1200) (htrim : d.trim = n) (hpending : d.pendingTrim = s.dc.pendingTrim)
      (hlock : d.lockDown = s.dc.lockDown) : d.Succeeds s.dc := by
    subst htrim
    exact ⟨fun ⟨_, _, h⟩ => ⟨hn.1, hn.2, fun t ht => h t (hpending ▸ ht)⟩, fun h => hlock ▸ h⟩
  unfold State.configComplete
  split
  · refine hset (n := fallbackTrim p) ?_ (by simp [State.enterFallback]) rfl rfl
    unfold fallbackTrim
    split
    · decide
    · exact clampTo_within (by decide) _
  · simp only [State.enterListening, State.startPhotometer_dc]
    exact hset (n := (correctedRecord p).trimDefault) (clampTo_within (by decide) _) rfl rfl rfl

theorem Move.trim {c : Instr} {s t : State} (h : Move s c t) : t.dc.Succeeds s.dc := by
  cases h with
  | levelUpdated => exact State.levelUpdate_trim _
  | @accepted _ lc k r _ hk _ _ =>
    cases k with
    | trim => exact State.takeTrim_trim _ r
    | reset => exact absurd rfl hk
    | _ => exact .of_eq (by simp [State.dispatch])
  | _ => exact .of_eq (by simp)

theorem State.atResetValues_trimSound (s : State) (lock : Bool) (n m e : Nat) (started : Bool) :
    (s.atResetValues lock n m e started).TrimSound :=
  ⟨(by decide : 800 ≤ 1000), (by decide : 1000 ≤ 1200), by rintro t ⟨⟩⟩

theorem Effect.keepsTrim {c : Instr} {s t : State} (h : Effect s c t) (hs : s.TrimSound) : t.TrimSound := by
  cases h with
  | move hmove => exact hmove.trim.within hs
  | @configured image due _ _ _ => exact (State.configComplete_trim (s.elapseTo due) _).within hs
  | powerOnReset => exact State.atResetValues_trimSound ..
  | lineReset => exact State.atResetValues_trimSound ..

/-- Only a power-on reset, by the supply or by RSTN, releases the lock-down (R54, R175). -/
theorem Effect.keepsLockDown {c : Instr} {s t : State} (h : Effect s c t) (hs : s.dc.lockDown = true) :
    t.dc.lockDown = true ∨ c = .powerUp ∨ c = .powerLoss ∨ c = .rstnAssert ∨ c = .rstnRelease := by
  cases h with
  | move hmove => exact .inl (hmove.trim.locked hs)
  | @configured image due _ _ _ => exact .inl ((State.configComplete_trim (s.elapseTo due) _).locked hs)
  | powerOnReset hc =>
    refine .inr ?_
    tauto
  | lineReset => exact .inl hs

/-- Settles O59: every effect of a command keeps each of the limits, and only the four commands of supply and RSTN release the
lock-down. -/
theorem stepKeepsOutputAndFrontEnd : Obligations.StepKeepsOutputAndFrontEnd := by
  refine ⟨fun s t houtput hfront h => ?limits, fun s t htrim h => ?trim, fun s t hlock h => ?locked⟩
  case limits =>
    rcases step_cases h with ⟨c, rest, -, hexec⟩ | rfl
    · have heffect := Effect.of_exec hexec
      exact ⟨heffect.keepsOutput houtput, heffect.keepsFrontEnd hfront⟩
    · exact ⟨houtput, hfront⟩
  case trim =>
    rcases step_cases h with ⟨c, rest, -, hexec⟩ | rfl
    · exact (Effect.of_exec hexec).keepsTrim htrim
    · exact htrim
  case locked =>
    rcases step_cases h with ⟨c, rest, hpending, hexec⟩ | rfl
    · exact ((Effect.of_exec hexec).keepsLockDown hlock).imp_right fun hc => ⟨c, by rw [hpending]; rfl, hc⟩
    · exact .inl hlock

/-! ### Right after a reset -/

/-- The state right after a reset is at the reset values, its reset ended. -/
theorem State.reset_eq_atResetValues : State.reset = State.reset.atResetValues false 0 0 0 true := rfl

/-- Settles O60: each invariant holds at the reset values. -/
theorem resetIsSound : Obligations.ResetIsSound := by
  obtain ⟨-, hconditions, -⟩ := State.reset.atResetValues_faultsReset false 0 0 0 true
  rw [← State.reset_eq_atResetValues] at hconditions
  refine ⟨?alarm, fun g hg => ?flagged, ?table, ?list, ?line, ?output, ?front, ?trim⟩
  case alarm => exact FaultRecord.withFlags_follows FaultRecord.atReset 0
  case flagged => exact absurd hg (by simp [hconditions])
  case table => exact ⟨Nat.zero_le _, .nil, by rintro e ⟨⟩, Nat.zero_le _, fun _ => rfl⟩
  case list => exact ⟨Nat.zero_le _, .nil, by rintro e ⟨⟩, fun _ => rfl⟩
  case line =>
    exact ⟨fun k => by cases k <;> decide, Nat.zero_le _, Nat.zero_le _, Nat.zero_le _, (by decide : 0 < 55)⟩
  case output => exact State.reset.atResetValues_outputSound false 0 0 0 true
  case front => exact State.reset.atResetValues_frontEndSound false 0 0 0 true
  case trim => exact State.reset.atResetValues_trimSound false 0 0 0 true

end Sys2Proof.Machine
end

section
/-! PROOF. Supply, RSTN and RESET (R156, R170, R174, R175), and the commands that only follow a pin or a timer: a count discarded (R4, R5),
the end of SENSOR_FAULT (R10, R11), the FULLIN debounce (R112), the turnaround guard and ACT (R159, R161). -/

namespace Sys2Proof.Machine

/-! ### Resets -/

/-- The byte of SDO, by the byte times of 8 µs passed since the read began (R170). -/
theorem State.sdoByte_of_reading {s : State} {due : Time} (hpowered : s.powered = true) (hdue : s.cl.readDue = some due) :
    s.sdoByte = ([0x03, 0x00, 0x00] : List Byte)[(s.now + 15840 - due) / 160]? := by
  simp only [State.sdoByte, hdue, hpowered, if_true]
  rfl

/-- Settles O3: a power-on reset is the reset values written out, its reset ended where RSTN is high; the byte of SDO is the one of the
byte time that the clock stands in. -/
theorem powerUpTakesPowerOnReset : Obligations.PowerUpTakesPowerOnReset := by
  intro s
  refine ⟨fun hhigh => ?started, fun hlow => ?held, fun hpowered hidle => ?idle, fun due hpowered hdue => ?reading⟩
  case started =>
    refine congrArg Host.Outcome.next ((if_neg ?_).trans (State.startFromReset_eq { s with powered := true } false 0 0 0))
    simp [hhigh]
  case held => exact congrArg Host.Outcome.next ((if_pos hlow).trans (State.blocksAtReset_eq { s with powered := true } false 0 0 0))
  case idle => simp [State.csn, State.sdoByte, hpowered, hidle]
  case reading =>
    rw [State.sdoByte_of_reading hpowered hdue]
    refine ⟨by simp [State.csn, hdue], fun i b hb hfrom hto => ?_, fun hafter => ?_⟩
    · have hplace : (s.now + 15840 - due) / 160 = i := by
        unfold Time at *
        omega
      rw [hplace, hb]
    · refine List.getElem?_eq_none ?_
      show 3 ≤ _
      unfold Time at *
      omega

/-- Settles O4: each edge of RSTN is one branch of the model's, and a power-on reset the reset values written out. -/
theorem rstnHoldsAndReleases : Obligations.RstnHoldsAndReleases := by
  intro s
  refine ⟨congrArg Host.Outcome.next (State.blocksAtReset_eq { s with rstnLow := true } false 0 0 0), fun hpowered hlow => ?ended,
    fun hhigh => ?ignored, fun hpowered hlow => ?followed⟩
  case ended =>
    have hended := State.startFromReset_eq { s with rstnLow := false } false 0 0 0
    exact congrArg Host.Outcome.next ((if_pos hlow).trans ((if_pos hpowered).trans hended))
  case ignored =>
    refine congrArg Host.Outcome.next (if_neg ?_)
    simp [hhigh]
  case followed =>
    refine congrArg Host.Outcome.next ((if_pos hlow).trans (if_neg ?_))
    simp [hpowered]

/-- Settles O5: a RESET that the station takes is the line reset, which is the reset values written out. -/
theorem resetFrameTakesLineReset : Obligations.ResetFrameTakesLineReset := by
  intro s f htakes
  refine congrArg Host.Outcome.next ((htakes.frameStep_eq rfl).trans ?_)
  exact State.takeReset_eq (s := s) (lc := s.lineAfterFrame) rfl rfl rfl

/-! ### Without supply -/

/-- What the blocks of an unpowered part hold, as far as the commands look at it. -/
structure State.Dormant (s : State) : Prop where
  powered : s.powered = false
  station : s.le.station = .configuring
  readDue : s.cl.readDue = none
  sampleTimer : s.pfe.sampleTimer = none
  recoveryTimer : s.pfe.recoveryTimer = none
  reportTimer : s.pfe.reportTimer = none
  entries : s.pt.entries = []
  updateTimer : s.le.updateTimer = none
  listeningTimer : s.le.listeningTimer = none
  orders : s.ol.entries = []
  debounceTimer : s.ol.debounceTimer = none
  propagationTimer : s.ol.propagationTimer = none
  pwmTimer : s.ch.pwmTimer = none
  channel : ∀ k, s.ch.get k = Channel.atReset
  attempt : s.lc.attempt = none
  guardTimer : s.lc.guardTimer = none
  act : s.lc.act = .dark

theorem State.HeldUnpowered.dormant {s : State} (h : s.HeldUnpowered) : s.Dormant := by
  obtain ⟨hpowered, since, hs⟩ := h
  refine ⟨hpowered, ?_, ?_, ?_, ?_, ?_, ?_, ?_, ?_, ?_, ?_, ?_, ?_, fun k => ?_, ?_, ?_, ?_⟩
  case refine_13 =>
    rw [hs]
    cases k <;> rfl
  all_goals
    rw [hs]
    rfl

/-- Without supply every output is low (log 10). -/
theorem State.Dormant.outputsLow {s : State} (h : s.Dormant) : s.OutputsLow := by
  refine ⟨fun k => ?_, ?_, ?_, ?_, ?_, ?_, ?_⟩
  · simp [State.gateDrive, State.gateDriveAt, h.powered]
  · simp [State.zde, h.powered]
  · simp [State.ztx, h.powered]
  · simp [State.alarmPin, h.powered]
  · simp [State.actPin, h.powered]
  · simp [State.csn, h.powered]
  · simp [State.sdoByte, h.readDue]

/-- A power-on reset that has not ended leaves an unpowered part held. -/
theorem State.atResetValues_heldUnpowered {s : State} (h : s.powered = false) : (s.atResetValues false 0 0 0 false).HeldUnpowered :=
  ⟨h, s.now, rfl⟩

/-- The clock, the other pins and the queue make no difference to an unpowered part held at its reset values. -/
theorem State.HeldUnpowered.withPins {s : State} (h : s.HeldUnpowered) (now : Time) (rstnLow fullinClosed phinInBand : Bool)
    (pending : List Instr) :
    ({ s with now := now, rstnLow := rstnLow, fullinClosed := fullinClosed, phinInBand := phinInBand,
              pending := pending } : State).HeldUnpowered := by
  obtain ⟨hpowered, since, hs⟩ := h
  refine ⟨hpowered, since, ?_⟩
  conv_lhs => rw [hs]
  rfl

/-- In CONFIGURING no frame is received (R150). -/
theorem State.frameStep_of_configuring {s : State} (h : s.le.station = .configuring) (k : FrameKind) (f : Frame) :
    s.frameStep k f = s := by
  simp [State.frameStep, h, StationState.onLine]

/-- A dormant part ignores every command but those of the supply and of the pins. -/
theorem State.Dormant.exec_ignored {s : State} (h : s.Dormant) (c : Instr) :
    exec c s = .next s ∨ c = .powerUp ∨ c = .powerLoss ∨ c = .rstnAssert ∨ c = .rstnRelease ∨ c = .phinLeavesBand ∨
      c = .phinReturnsToBand ∨ ∃ closed, c = .fullinPinChange closed := by
  have hframe (k : FrameKind) (f : Frame) : Host.Outcome.next (s.frameStep k f) = (.next s : Result) := by
    rw [State.frameStep_of_configuring h.station]
  have hpart (addr : Byte) (part : PartKind) : s.partTakenAt addr part = none := by
    cases part <;> simp [State.partTakenAt, h.entries, findEntry]
  cases c with
  | powerUp | powerLoss | rstnAssert | rstnRelease | phinLeavesBand | phinReturnsToBand | fullinPinChange => simp
  | configReadComplete => exact .inl (by simp [exec, execConfigReadComplete, h.readDue])
  | sampleInstant => exact .inl (by simp [exec, execSampleInstant, h.sampleTimer])
  | recoveryTimerExpiry => exact .inl (by simp [exec, execRecoveryTimerExpiry, h.recoveryTimer])
  | portalReportTimerExpiry => exact .inl (by simp [exec, execPortalReportTimerExpiry, h.reportTimer])
  | levelUpdate => exact .inl (by simp [exec, execLevelUpdate, h.updateTimer])
  | listeningTimerExpiry => exact .inl (by simp [exec, execListeningTimerExpiry, h.listeningTimer])
  | partStale => exact .inl (by simp [exec, execPartStale, hpart])
  | partLost => exact .inl (by simp [exec, execPartLost, hpart])
  | entryLost => exact .inl (by simp [exec, execEntryLost, h.entries, findEntry])
  | characterReceived => exact .inl (by simp [exec, execCharacterReceived, h.station, StationState.onLine])
  | levelFrame f => exact .inl (hframe .level f)
  | portalFrame f => exact .inl (hframe .portal f)
  | identFrame f => exact .inl (hframe .ident f)
  | overrideFrame f => exact .inl (hframe .override f)
  | trimFrame f => exact .inl (hframe .trim f)
  | clearFrame f => exact .inl (hframe .clear f)
  | identReqFrame f => exact .inl (hframe .identReq f)
  | resetFrame f => exact .inl (hframe .reset f)
  | overrideSecondTimerExpiry => exact .inl (by simp [exec, execOverrideSecondTimerExpiry, h.orders])
  | lineIdle => exact .inl (by simp [exec, execLineIdle, h.station, StationState.onLine])
  | accessWaitExpiry => exact .inl (by simp [exec, execAccessWaitExpiry, h.attempt])
  | contentSent => exact .inl (by simp [exec, execContentSent, h.attempt])
  | collision => exact .inl (by simp [exec, execCollision, h.attempt])
  | turnaroundGuardExpiry => exact .inl (by simp [exec, execTurnaroundGuardExpiry, h.guardTimer])
  | actTimerExpiry => exact .inl (by simp [exec, execActTimerExpiry, h.act])
  | fullinDebounceExpiry => exact .inl (by simp [exec, execFullinDebounceExpiry, h.debounceTimer])
  | propagationTimerExpiry => exact .inl (by simp [exec, execPropagationTimerExpiry, h.propagationTimer])
  | pwmPeriodStart => exact .inl (by simp [exec, execPwmPeriodStart, h.pwmTimer])
  | overcurrentTrip k =>
    exact .inl (by simp [exec, execOvercurrentTrip, State.tripPossible, h.channel, Channel.atReset])
  | retryTimerExpiry k => exact .inl (by simp [exec, execRetryTimerExpiry, h.channel, Channel.atReset])
  | tripTimeExpiry k => exact .inl (by simp [exec, execTripTimeExpiry, h.channel, Channel.atReset])
  | openTimerExpiry k => exact .inl (by simp [exec, execOpenTimerExpiry, h.channel, Channel.atReset])
  | loadCurrentPulse k => exact .inl (by simp [exec, execLoadCurrentPulse, State.inPulse, h.channel, Channel.atReset])

/-- An unpowered part stays held under every command but POWER_UP (log 10). -/
theorem State.HeldUnpowered.exec {s t : State} (h : s.HeldUnpowered) {c : Instr} (hc : c ≠ .powerUp) (ht : exec c s = .next t) :
    t.HeldUnpowered := by
  have hdormant := h.dormant
  have hpfe : s.pfeOn = false := State.pfeOn_of_configuring hdormant.station
  rcases hdormant.exec_ignored c with hignored | rfl | rfl | rfl | rfl | rfl | rfl | ⟨closed, rfl⟩
  · rw [hignored, Host.Outcome.next.injEq] at ht
    exact ht ▸ h
  · exact absurd rfl hc
  all_goals rw [Sys2Proof.Machine.exec] at ht
  · cases ht
    exact State.atResetValues_heldUnpowered (s := { s with powered := false }) rfl
  · cases ht
    exact State.atResetValues_heldUnpowered (s := { s with rstnLow := true }) hdormant.powered
  · cases ht
    unfold State.rstnRises
    dsimp only
    rw [if_neg (by simp [hdormant.powered] : ¬s.powered = true)]
    split
    · exact h.withPins s.now false s.fullinClosed s.phinInBand s.pending
    · exact h
  · rw [execPhinLeavesBand, if_neg (by simp [hpfe])] at ht
    cases ht
    exact h.withPins s.now s.rstnLow s.fullinClosed false s.pending
  · simp only [execPhinReturnsToBand, hpfe, Bool.false_and, Bool.false_eq_true, if_false] at ht
    split at ht
    · cases ht
      exact h
    · cases ht
      exact h.withPins s.now s.rstnLow s.fullinClosed true s.pending
  · have hoff : (s.powered && !s.rstnLow) = false := by simp [hdormant.powered]
    simp only [execFullinPinChange, hoff, Bool.false_eq_true, if_false] at ht
    split at ht
    · cases ht
      exact h
    · cases ht
      exact h.withPins s.now s.rstnLow closed s.phinInBand s.pending

/-- Settles O6: POWER_LOSS is the reset values written out on an unpowered part; such a part ignores every command but those of the
supply and the pins, and an idle step moves its clock alone. -/
theorem powerLossTakesOutputsLow : Obligations.PowerLossTakesOutputsLow := by
  intro s
  refine ⟨congrArg Host.Outcome.next (State.blocksAtReset_eq { s with powered := false } false 0 0 0),
    State.atResetValues_heldUnpowered rfl, fun h => ⟨h.dormant.outputsLow, fun c t hc ht => h.exec hc ht, fun t hhead ht => ?_⟩⟩
  rcases step_cases ht with ⟨c, rest, hpending, hexec⟩ | rfl
  · refine (h.withPins s.now s.rstnLow s.fullinClosed s.phinInBand rest).exec (c := c) ?_ hexec
    rintro rfl
    exact hhead (by rw [hpending]; rfl)
  · exact h.withPins (s.now + idleTick) s.rstnLow s.fullinClosed s.phinInBand s.pending

/-! ### Commands that follow a pin or a timer -/

/-- The statements write a time as a number of clock units before a quantity. -/
theorem ms_eq (n : Nat) : ms n = 20000 * n := Nat.mul_comm n 20000

theorem sec_eq (n : Nat) : sec n = 20000000 * n := Nat.mul_comm n 20000000

/-- The sample instant at the expiry of its timer. -/
theorem exec_sampleInstant {s : State} {due : Time} (hdue : s.pfe.sampleTimer = some due) (count : BitVec 12) :
    exec (.sampleInstant count) s = .next ((s.elapseTo due).sampleInstant count.toNat) := by
  simp only [exec, execSampleInstant, hdue]

/-- Settles O11: the first row of the table of R4, and the branch of R2 for a front end in fault. -/
theorem highCountDiscarded : Obligations.HighCountDiscarded := by
  intro s count due hdue
  rw [exec_sampleInstant hdue]
  refine ⟨fun habsent hhigh hgain => ?discarded, fun hfault => ?ignored⟩
  case discarded =>
    have hcase : sampleCase count.toNat s.pfe.gain = .discarded := by simp [sampleCase, hhigh, hgain]
    simp only [State.sampleInstant, State.elapseTo_pfe, habsent, Bool.false_eq_true, if_false, State.takeConversion, hcase, ms_eq]
    rfl
  case ignored =>
    simp only [State.sampleInstant, State.elapseTo_pfe, hfault, if_true, ms_eq]
    rfl

/-- Settles O15: the branches of the return of PHIN, and the expiry of the recovery timer. -/
theorem recoveryEndsSensorFault : Obligations.RecoveryEndsSensorFault := by
  refine ⟨fun s => ⟨fun hout hon hfault => ?starts, fun hout hoff => ?follows, fun hin => ?ignored⟩, fun s due hdue => ?ends⟩
  case starts =>
    simp only [exec, execPhinReturnsToBand, hout, hon, hfault, Bool.and_self, Bool.false_eq_true, if_false, if_true]
    rfl
  case follows =>
    have hnone : (s.pfeOn && s.pfe.sensorFault) = false := by rcases hoff with h | h <;> simp [h]
    simp only [exec, execPhinReturnsToBand, hout, hnone, Bool.false_eq_true, if_false]
  case ignored => simp only [exec, execPhinReturnsToBand, hin, if_true]
  case ends =>
    simp only [exec, execRecoveryTimerExpiry, hdue]
    rfl

/-- Settles O39: the branches of the pin change, and an expiry with the pin agreeing. -/
theorem fullinPinDebounced : Obligations.FullinPinDebounced := by
  refine ⟨fun s closed hmoves => ⟨fun hpowered hhigh => ?compared, fun hheld => ?followed⟩, fun s due hdue hagrees => ?stops⟩
  case compared =>
    simp only [exec, execFullinPinChange, hmoves, hpowered, hhigh, Bool.not_false, Bool.and_self, if_false, if_true]
    rfl
  case followed =>
    have hnot : (s.powered && !s.rstnLow) = false := by rcases hheld with h | h <;> simp [h]
    simp only [exec, execFullinPinChange, hmoves, hnot, Bool.false_eq_true, if_false]
  case stops =>
    simp only [exec, execFullinDebounceExpiry, hdue]
    exact congrArg Host.Outcome.next (if_pos hagrees)

/-- Settles O56: the two expiries are one branch of the model's each, and a GUARD drives no ACT. -/
theorem guardAndActTimers : Obligations.GuardAndActTimers := by
  intro s due
  refine ⟨fun hdue => ?guard, fun hlit => ?lit, fun hguarding => ?guarding⟩
  case guard =>
    simp only [exec, execTurnaroundGuardExpiry, hdue]
    rfl
  case lit =>
    simp only [exec, execActTimerExpiry, hlit]
    exact ⟨_, rfl, by simp [State.actPin], rfl⟩
  case guarding =>
    simp only [exec, execActTimerExpiry, hguarding]
    rfl

end Sys2Proof.Machine
end

section
/-! PROOF. The photometer front end: a kept sample and the reading it forms (R2 to R8), SENSOR_FAULT (R10, R13), and the PORTAL contents
placed early or at the report timer's expiry (R14 to R17). -/

namespace Sys2Proof.Machine

/-! ### Placing a PORTAL content (R15 to R17) -/

/-- A placement fills the PORTAL slot with the fields of the moment. -/
theorem State.placePortal_slotFilled (s : State) :
    SlotFilled s.lc s.placePortal.lc s.line s.now .portal
      { dest := 255, kind := .portal, tag := s.pfe.tag, payload := writePortal s.portalFields } :=
  LineControl.fill_slotFilled ..

/-- The payload of a valid reading (R16). -/
theorem State.writePortal_of_reading {s : State} {side : Side} {l : Nat} (hside : s.cfg.side = some side)
    (hreading : s.pfe.reading = some l) (habsent : s.pfe.sensorFault = false) :
    writePortal s.portalFields =
      [side.code, hiByte l, loByte l, BitVec.ofNat 8 s.pfe.readingGain.value,
       markBit 0 s.pfe.saturated ||| markBit 7 s.pfe.restartPending] := by
  simp [writePortal, State.portalFields, hside, hreading, habsent, be16, markBit]

theorem State.portalFields_luminance_of_reading {s : State} {l : Nat} (hreading : s.pfe.reading = some l)
    (habsent : s.pfe.sensorFault = false) : s.portalFields.luminance = l := by
  simp [State.portalFields, hreading, habsent]

/-- The payload while SENSOR_FAULT is present (R13, R16). -/
theorem State.writePortal_of_fault {s : State} {side : Side} (hside : s.cfg.side = some side) (hfault : s.pfe.sensorFault = true) :
    writePortal s.portalFields =
      [side.code, 0, 0, BitVec.ofNat 8 s.pfe.gain.value, markBit 1 true ||| markBit 7 s.pfe.restartPending] := by
  simp [writePortal, State.portalFields, hside, hfault, be16, markBit, hiByte, loByte]

/-- When the early check places (R15). -/
theorem State.earlyPortal_eq (s : State) (l : Nat) :
    s.earlyPortal l =
      if 1 ≤ (l - s.pfe.lastReported) + (s.pfe.lastReported - l) ∧
          s.pfe.lastReported ≤ 8 * ((l - s.pfe.lastReported) + (s.pfe.lastReported - l)) ∧
          20000 * s.reportPeriod ≤ 4 * (s.now - s.pfe.placedAt)
      then s.placePortal else s := by
  refine if_congr ?_ rfl rfl
  simp only [movedEnough, quarterPassed, Bool.and_eq_true, decide_eq_true_eq, and_assoc]
  rw [ms_eq]
  rfl

/-- The early check changes nothing of the front end but what a placement writes. -/
theorem State.earlyPortal_pfe (s : State) (l : Nat) :
    (s.earlyPortal l).pfe = { s.pfe with
      tag := (s.earlyPortal l).pfe.tag, lastReported := (s.earlyPortal l).pfe.lastReported,
      placedAt := (s.earlyPortal l).pfe.placedAt, reportTimer := (s.earlyPortal l).pfe.reportTimer } := by
  unfold State.earlyPortal
  split <;> rfl

/-- The state with SENSOR_FAULT begun, before the early check (R10). -/
def State.faulted (s : State) : State :=
  { s with pfe := { s.pfe with window := [], reading := none, saturated := false, sensorFault := true },
           fr := s.fr.raiseIf true .sensorFault }

/-- SENSOR_FAULT begins, and its reading of 0 is placed where the last reported luminance was not 0 and P/4 has passed (R10, R15). -/
theorem State.beginSensorFault_eq (s : State) :
    s.beginSensorFault =
      if 1 ≤ s.pfe.lastReported ∧ 20000 * s.reportPeriod ≤ 4 * (s.now - s.pfe.placedAt) then s.faulted.placePortal else s.faulted := by
  refine (s.faulted.earlyPortal_eq 0).trans (if_congr ?_ rfl rfl)
  have hfaulted : s.faulted.pfe.lastReported = s.pfe.lastReported := rfl
  rw [hfaulted, Nat.zero_sub, Nat.sub_zero, Nat.zero_add]
  exact ⟨fun ⟨hmoved, _, hpassed⟩ => ⟨hmoved, hpassed⟩, fun ⟨hmoved, hpassed⟩ => ⟨hmoved, by omega, hpassed⟩⟩

/-! ### Kept samples (R3 to R8) -/

/-- The sample of a count (R3, R4). -/
def State.sampleOf (s : State) (count : Nat) : Sample :=
  { luminance := convert count s.cfg.fullScale s.pfe.gain, saturated := decide (3968 ≤ count), gain := s.pfe.gain }

/-- The state with a kept sample in its window and the reading formed, before the early check (R7, R8). -/
def State.withSample (s : State) (count : Nat) : State :=
  { s with pfe := { s.pfe with sampleTimer := some (s.now + ms s.cfg.samplePeriod) }.keep (s.sampleOf count) }

/-- The early check of the reading just formed (R15). -/
def State.checkedSample (s : State) (count : Nat) : State :=
  (s.withSample count).earlyPortal ((s.withSample count).pfe.reading.getD 0)

/-- A kept sample: the reading, the early check, and for a low count the gain stepped up and the window emptied (R4, R8). -/
theorem State.sampleInstant_of_kept {s : State} {count : Nat} (habsent : s.pfe.sensorFault = false)
    (hkept : count < 3968 ∨ s.pfe.gain = .g1) :
    s.sampleInstant count = { s.checkedSample count with pfe := { (s.checkedSample count).pfe with
      gain := if count < 1024 ∧ s.pfe.gain ≠ .g16 then s.pfe.gain.double else s.pfe.gain,
      window := if count < 1024 ∧ s.pfe.gain ≠ .g16 then [] else joinWindow s.pfe.window (s.sampleOf count) } } := by
  have hrow : s.sampleInstant count =
      ({ s with pfe := { s.pfe with sampleTimer := some (s.now + ms s.cfg.samplePeriod) } } : State).takeConversion count :=
    if_neg (by simp [habsent])
  have hpfe : (s.checkedSample count).pfe = _ := State.earlyPortal_pfe _ _
  have hgain : (s.checkedSample count).pfe.gain = s.pfe.gain := by rw [hpfe]; rfl
  have hsame : s.checkedSample count = { s.checkedSample count with pfe := { (s.checkedSample count).pfe with
      gain := s.pfe.gain, window := joinWindow s.pfe.window (s.sampleOf count) } } := by
    have hwindow : (s.checkedSample count).pfe.window = joinWindow s.pfe.window (s.sampleOf count) := by rw [hpfe]; rfl
    rw [← hgain, ← hwindow]
  rw [hrow]
  by_cases hhigh : 3968 ≤ count
  · have hone : s.pfe.gain = .g1 := hkept.resolve_left (by omega)
    have hcase : sampleCase count s.pfe.gain = .saturated := by simp [sampleCase, hhigh, hone]
    have hlow : ¬(count < 1024 ∧ s.pfe.gain ≠ .g16) := by omega
    rw [if_neg hlow, if_neg hlow, ← hsame]
    simp only [State.takeConversion, hcase, State.keepSample, State.checkedSample, State.withSample, State.sampleOf, hhigh, decide_true]
    rfl
  · by_cases hlow : count < 1024 ∧ s.pfe.gain ≠ .g16
    · have hcase : sampleCase count s.pfe.gain = .stepUp := by
        simp only [sampleCase, hhigh, hlow, ne_eq, not_false_eq_true, and_self, if_false, if_true]
      rw [if_pos hlow, if_pos hlow, ← hgain]
      simp only [State.takeConversion, hcase, State.keepSample, State.checkedSample, State.withSample, State.sampleOf, hhigh, decide_false]
      rfl
    · have hcase : sampleCase count s.pfe.gain = .plain := by simp only [sampleCase, hhigh, hlow, if_false]
      rw [if_neg hlow, if_neg hlow, ← hsame]
      simp only [State.takeConversion, hcase, State.keepSample, State.checkedSample, State.withSample, State.sampleOf, hhigh, decide_false]
      rfl

/-- The middle of three values is one of them, with two of them on either side of it or equal to it (R8, R45). -/
theorem median3_spec (x y z : Nat) :
    median3 x y z ∈ [x, y, z] ∧ 2 ≤ ([x, y, z].filter fun w => w ≤ median3 x y z).length ∧
      2 ≤ ([x, y, z].filter fun w => median3 x y z ≤ w).length := by
  have hmiddle : median3 x y z = x ∧ (y ≤ x ∧ x ≤ z ∨ z ≤ x ∧ x ≤ y) ∨ median3 x y z = y ∧ (x ≤ y ∧ y ≤ z ∨ z ≤ y ∧ y ≤ x) ∨
      median3 x y z = z ∧ (x ≤ z ∧ z ≤ y ∨ y ≤ z ∧ z ≤ x) := by
    unfold median3
    omega
  rcases hmiddle with ⟨hm, h | h⟩ | ⟨hm, h | h⟩ | ⟨hm, h | h⟩ <;> rw [hm] <;>
    simp only [List.filter_cons, List.filter_nil, h.1, h.2, le_refl, decide_true, if_true, List.mem_cons, true_or, or_true, true_and] <;>
    constructor <;> split <;> simp

/-- The reading formed from one, two or three samples (R8). -/
theorem formReading_isSome {w : List Sample} (hpos : w ≠ []) (hlength : w.length ≤ 3) : ∃ l, formReading w = some l := by
  match w, hpos, hlength with
  | [x], _, _ => exact ⟨_, rfl⟩
  | [x, y], _, _ => exact ⟨_, rfl⟩
  | [x, y, z], _, _ => exact ⟨_, rfl⟩

theorem joinWindow_ne_nil (w : List Sample) (x : Sample) : joinWindow w x ≠ [] := by
  intro h
  have hlength := congrArg List.length h
  simp only [joinWindow, List.length_drop, List.length_append, List.length_singleton, List.length_nil] at hlength
  omega

/-- A kept sample always forms a reading. -/
theorem State.withSample_reading (s : State) (count : Nat) : ∃ l, (s.withSample count).pfe.reading = some l :=
  formReading_isSome (joinWindow_ne_nil _ _) (length_joinWindow_le _ _)

/-- Counting samples by their luminance. -/
theorem length_filter_luminance (w : List Sample) (p : Nat → Bool) :
    (w.filter fun x => p x.luminance).length = ((w.map Sample.luminance).filter p).length := by
  rw [List.filter_map, List.length_map]
  rfl

/-- What the early check leaves of the front end with a kept sample. -/
theorem State.checkedSample_pfe (s : State) (count : Nat) :
    (s.checkedSample count).pfe = { (s.withSample count).pfe with
      tag := (s.checkedSample count).pfe.tag, lastReported := (s.checkedSample count).pfe.lastReported,
      placedAt := (s.checkedSample count).pfe.placedAt, reportTimer := (s.checkedSample count).pfe.reportTimer } :=
  State.earlyPortal_pfe _ _

/-- A sample instant with a kept count changes the front end, the PORTAL slot and the clock only. -/
theorem State.checkedSample_eq (s : State) (count : Nat) :
    s.checkedSample count = { s with pfe := (s.checkedSample count).pfe, lc := (s.checkedSample count).lc } := by
  unfold State.checkedSample State.earlyPortal
  split <;> rfl

/-- Settles O12: a kept sample joins the window, whose reading is formed by its length; the early check touches no field named here. -/
theorem keptSampleFormsReading : Obligations.KeptSampleFormsReading := by
  intro s count due hdue habsent hlength hkept
  let u := s.elapseTo due
  have hexec := (exec_sampleInstant hdue count).trans
    (congrArg Host.Outcome.next (State.sampleInstant_of_kept (s := u) habsent hkept))
  have hpfe := u.checkedSample_pfe count.toNat
  have hjoined : joinWindow s.pfe.window (u.sampleOf count.toNat) =
      (s.pfe.window ++ [u.sampleOf count.toNat]).drop (s.pfe.window.length - 2) := by
    rw [joinWindow, List.length_append, List.length_singleton]
    rfl
  have hreading : (u.checkedSample count.toNat).pfe.reading = formReading (joinWindow s.pfe.window (u.sampleOf count.toNat)) := by
    rw [hpfe]
    rfl
  refine ⟨_, hexec, ⟨?window, rfl, ?gain, ?saturated, fun h => ?one, fun y h => ?two, fun y z h => ?three⟩, ?timer, ?fault, ?recovery, ?rest⟩
  case window => exact congrArg (fun w => if count.toNat < 1024 ∧ s.pfe.gain ≠ .g16 then [] else w) hjoined
  case gain => exact (congrArg Photometer.readingGain hpfe).trans rfl
  case saturated => exact (congrArg Photometer.saturated hpfe).trans (congrArg (·.any Sample.saturated) hjoined)
  case one => exact hreading.trans (congrArg formReading (hjoined.trans h))
  case two => exact hreading.trans (congrArg formReading (hjoined.trans h))
  case three =>
    refine ⟨_, hreading.trans (congrArg formReading (hjoined.trans h)), ?_⟩
    rw [h, length_filter_luminance _ (fun v => v ≤ _), length_filter_luminance _ (fun v => _ ≤ v)]
    exact median3_spec _ _ _
  case timer => rw [← ms_eq]; exact (congrArg Photometer.sampleTimer hpfe).trans rfl
  case fault => exact (congrArg Photometer.sensorFault hpfe).trans habsent
  case recovery => exact (congrArg Photometer.recoveryTimer hpfe).trans rfl
  case rest =>
    rw [u.checkedSample_eq]
    rfl

/-- Settles O13: the early check is made on the state with the kept sample, whose reading is the one formed. -/
theorem earlyPortalReport : Obligations.EarlyPortalReport := by
  intro s count due side hdue habsent hside hkept
  let u := s.elapseTo due
  obtain ⟨l, hl⟩ := u.withSample_reading count.toNat
  have hexec := (exec_sampleInstant hdue count).trans
    (congrArg Host.Outcome.next (State.sampleInstant_of_kept (s := u) habsent hkept))
  have hpfe := u.checkedSample_pfe count.toNat
  have hchecked : u.checkedSample count.toNat = (u.withSample count.toNat).earlyPortal l := by
    rw [State.checkedSample, hl]
    rfl
  have hslot := (u.withSample count.toNat).placePortal_slotFilled
  rw [State.writePortal_of_reading (s := u.withSample count.toNat) hside hl habsent] at hslot
  have hmarks : (u.checkedSample count.toNat).pfe.saturated = (u.withSample count.toNat).pfe.saturated := by rw [hpfe]
  refine ⟨_, l, hexec, (congrArg Photometer.reading hpfe).trans hl, ?_⟩
  dsimp only
  rw [hmarks, hchecked, State.earlyPortal_eq]
  by_cases hplaces : 1 ≤ (l - s.pfe.lastReported) + (s.pfe.lastReported - l) ∧
      s.pfe.lastReported ≤ 8 * ((l - s.pfe.lastReported) + (s.pfe.lastReported - l)) ∧
      20000 * s.reportPeriod ≤ 4 * (max s.now due - s.pfe.placedAt)
  · rw [if_pos hplaces, if_pos (by exact hplaces)]
    refine ⟨hslot, rfl, ?_, rfl, ?_⟩
    · exact State.portalFields_luminance_of_reading hl habsent
    · rw [State.placePortal_pfe, ms_eq]
      rfl
  · rw [if_neg hplaces, if_neg (by exact hplaces)]
    exact ⟨rfl, rfl, rfl, rfl, rfl⟩

/-- Settles O14: SENSOR_FAULT begins with the early check of a reading of 0; a fault that is present, and a front end that is off, are
the other two branches. -/
theorem phinLeavingBandBeginsSensorFault : Obligations.PhinLeavingBandBeginsSensorFault := by
  intro s
  refine ⟨fun side hreg hside => ⟨fun habsent => ?begins, fun hfault => ?stops⟩, fun hoff => ?ignored⟩
  case begins =>
    have hon : s.pfeOn = true := by simp [State.pfeOn, hreg, hside]
    let out : State := { s with phinInBand := false }
    have hexec : exec .phinLeavesBand s = .next out.beginSensorFault := by
      simp only [exec, execPhinLeavesBand, hon, habsent, Bool.false_eq_true, if_false, if_true, out]
    have hslot := out.faulted.placePortal_slotFilled
    rw [State.writePortal_of_fault (s := out.faulted) hside rfl] at hslot
    by_cases hplaces : 1 ≤ s.pfe.lastReported ∧ 20000 * s.reportPeriod ≤ 4 * (s.now - s.pfe.placedAt)
    · refine ⟨_, hexec.trans (congrArg _ (out.beginSensorFault_eq.trans (if_pos hplaces))), rfl, rfl, ?_, rfl⟩
      dsimp only
      rw [if_pos hplaces]
      refine ⟨hslot, ?_⟩
      rw [State.placePortal_pfe, ms_eq]
      rfl
    · refine ⟨_, hexec.trans (congrArg _ (out.beginSensorFault_eq.trans (if_neg hplaces))), rfl, rfl, ?_, rfl⟩
      dsimp only
      rw [if_neg hplaces]
      exact ⟨rfl, rfl⟩
  case stops =>
    have hon : s.pfeOn = true := by simp [State.pfeOn, hreg, hside]
    simp only [exec, execPhinLeavesBand, hon, hfault, if_true]
  case ignored =>
    have hpfe : s.pfeOn = false := by rcases hoff with h | h <;> simp [State.pfeOn, h]
    simp only [exec, execPhinLeavesBand, hpfe, Bool.false_eq_true, if_false]

/-- Settles O16: with a valid reading or a fault the expiry is a placement of the fields written out, and otherwise it restarts the
timer alone. -/
theorem portalReportTimerPlaces : Obligations.PortalReportTimerPlaces := by
  intro s due side hdue hside
  have hexec : exec .portalReportTimerExpiry s = .next (s.elapseTo due).portalReport := by
    simp only [exec, execPortalReportTimerExpiry, hdue]
  refine ⟨_, hexec, ?_⟩
  have hslot := (s.elapseTo due).placePortal_slotFilled
  by_cases hsays : (s.pfe.reading.isSome || s.pfe.sensorFault) = true
  · have hplaced : (s.elapseTo due).portalReport = (s.elapseTo due).placePortal := if_pos hsays
    rw [hplaced]
    refine ⟨by rw [State.placePortal_pfe, ms_eq]; rfl, rfl, fun l hl habsent => ?reading, fun hfault => ?fault, fun hnone habsent => ?nothing⟩
    case reading =>
      rw [State.writePortal_of_reading (s := s.elapseTo due) hside hl habsent] at hslot
      refine ⟨hslot, ?_⟩
      rw [State.placePortal_pfe, State.portalFields_luminance_of_reading (s := s.elapseTo due) hl habsent]
      rfl
    case fault =>
      rw [State.writePortal_of_fault (s := s.elapseTo due) hside hfault] at hslot
      refine ⟨hslot, ?_⟩
      rw [State.placePortal_pfe]
      simp [State.portalFields, hfault]
    case nothing => simp [hnone, habsent] at hsays
  · have hkept : (s.elapseTo due).portalReport =
        { s.elapseTo due with pfe := { s.pfe with reportTimer := some (max s.now due + 20000 * s.reportPeriod) } } := by
      rw [← ms_eq]
      exact if_neg hsays
    rw [hkept]
    refine ⟨rfl, rfl, fun l hl _ => ?_, fun hfault => ?_, fun _ _ => ⟨rfl, rfl⟩⟩
    · simp [hl] at hsays
    · simp [hfault] at hsays

end Sys2Proof.Machine
end

section
/-! PROOF. Reports at the peer table (R21 to R36): taken into the entry of their source, discarded as duplicates, and at a full table
taken into a victim's stead or refused. -/

namespace Sys2Proof.Machine

/-! ### NEIGHBOUR_LOST (R38) -/

/-- A level part is not FRESH beyond the stale time, and at it once PART_STALE has been taken (R32, log 29). -/
theorem State.levelFreshness_ne_fresh_iff (s : State) (l : LevelPart) :
    s.levelFreshness l ≠ .fresh ↔ 20000 * s.cfg.staleTime < min (s.now - l.takenAt) 1310700000 ∨
      20000 * s.cfg.staleTime = min (s.now - l.takenAt) 1310700000 ∧ l.aged ≠ .fresh := by
  have hage : s.age l.takenAt = min (s.now - l.takenAt) 1310700000 := rfl
  rw [State.levelFreshness, State.freshness, hage, ne_eq, freshnessOf_eq_fresh_iff, ms_eq]
  generalize min (s.now - l.takenAt) 1310700000 = age
  simp only [Time] at *
  by_cases hfresh : l.aged = .fresh
  · simp only [hfresh, and_true, ne_eq, not_true_eq_false, and_false, or_false]
    omega
  · simp only [hfresh, and_false, or_false, ne_eq, not_false_eq_true, and_true]
    omega

/-- The examination of R38 is what the statements call a missing neighbour. -/
theorem State.any_neighbourSilent_iff (s : State) : s.pt.entries.any s.neighbourSilent = true ↔ s.NeighbourMissing := by
  have hsilent (e : Entry) : s.neighbourSilent e = true ↔ e.reserved = true ∧ ∀ l, e.level = some l → s.levelFreshness l ≠ .fresh := by
    unfold State.neighbourSilent
    cases e.level with
    | none => simp
    | some l => simp
  simp only [List.any_eq_true, hsilent, State.levelFreshness_ne_fresh_iff]

/-- The examination of NEIGHBOUR_LOST: the condition is a missing neighbour in RUNNING, and its flag is raised while present (R38). -/
theorem State.examineNeighbours_spec (s : State) :
    (s.examineNeighbours.pt.neighbourLost = true ↔ s.le.station = .running ∧ s.examineNeighbours.NeighbourMissing) ∧
      (s.examineNeighbours.pt.neighbourLost = true → s.examineNeighbours.fr.isSet .neighbourLost = true) ∧
      s.examineNeighbours.RaisesOnly s [.neighbourLost] := by
  have hmissing : s.examineNeighbours.NeighbourMissing ↔ s.NeighbourMissing := Iff.rfl
  refine ⟨?_, fun h => FaultRecord.isSet_raiseIf_self _ h _, s.raiseIf_raisesOnly _ _⟩
  rw [hmissing, ← State.any_neighbourSilent_iff]
  simp [State.examineNeighbours]

/-! ### The entry of a source -/

/-- Where a source has an entry, or room for one, a report is applied to that entry and no other changes (R27, R34). -/
theorem State.applyToEntry_of_entryFor {s : State} {src : Byte} {e : Entry} (he : s.EntryFor src e) {g : Entry → Entry}
    (hg : ∀ x, (g x).addr = x.addr) :
    ∃ es, s.applyToEntry src g = { s with pt := { s.pt with entries := es } } ∧ findEntry es src = some (g e) ∧
      ∀ a, a ≠ src → findEntry es a = findEntry s.pt.entries a := by
  rcases he with hfound | ⟨hnone, hroom, rfl⟩
  · refine ⟨updateEntry s.pt.entries src g, by simp only [State.applyToEntry, hfound], ?_, fun a ha => ?_⟩
    · simp [findEntry_updateEntry hg, hfound]
    · simp [findEntry_updateEntry hg, Ne.symm ha]
  · have hmade : s.withRoomFor src = some (insertEntry (newEntry src false s.now) s.pt.entries) := if_pos hroom
    refine ⟨updateEntry (insertEntry (newEntry src false s.now) s.pt.entries) src g,
      by simp only [State.applyToEntry, hnone, hmade], ?_, fun a ha => ?_⟩
    · rw [findEntry_updateEntry hg, findEntry_insertEntry (e := newEntry src false s.now) src hnone]
      simp [newEntry]
    · rw [findEntry_updateEntry hg, findEntry_insertEntry (e := newEntry src false s.now) a hnone]
      simp [newEntry, Ne.symm ha]

theorem State.EntryFor.isReserved {s : State} {src : Byte} {e : Entry} (he : s.EntryFor src e) : s.isReserved src = e.reserved := by
  rcases he with hfound | ⟨hnone, -, rfl⟩
  · simp [State.isReserved, hfound]
  · simp [State.isReserved, hnone]

/-- The part held for a source is that of its entry. -/
theorem State.EntryFor.bind_part {α : Type} {s : State} {src : Byte} {e : Entry} (he : s.EntryFor src e) (part : Entry → Option α)
    (hnew : ∀ now, part (newEntry src false now) = none) : (findEntry s.pt.entries src).bind part = part e := by
  rcases he with hfound | ⟨hnone, -, rfl⟩
  · simp [hfound]
  · rw [hnone]
    exact (hnew s.now).symm

/-- A duplicate, in the terms of R30. -/
theorem isDuplicate_iff (partTag : Byte) (partRestart : Bool) (tag : Byte) (restart : Bool) :
    isDuplicate partTag partRestart tag restart = true ↔ tag = partTag ∧ (restart = false ∨ partRestart = true) := by
  simp [isDuplicate]

theorem State.levelDuplicate_eq_false {s : State} {r : RawFrame} {e : Entry} (he : s.EntryFor r.src e)
    (h : ∀ l, e.level = some l → ¬(r.tag = l.tag ∧ ((readLevel r.payload).restart = false ∨ l.restart = true))) :
    s.levelDuplicate r = false := by
  rw [State.levelDuplicate, he.bind_part Entry.level fun _ => rfl]
  cases hl : e.level with
  | none => rfl
  | some l => exact Bool.eq_false_iff.2 fun hdup => h l hl ((isDuplicate_iff ..).1 hdup)

theorem State.portalDuplicate_eq_false {s : State} {r : RawFrame} {e : Entry} (he : s.EntryFor r.src e)
    (h : ∀ p, e.portal = some p → ¬(r.tag = p.tag ∧ ((readPortal r.payload).restart = false ∨ p.restart = true))) :
    s.portalDuplicate r = false := by
  rw [State.portalDuplicate, he.bind_part Entry.portal fun _ => rfl]
  cases hp : e.portal with
  | none => rfl
  | some p => exact Bool.eq_false_iff.2 fun hdup => h p hp ((isDuplicate_iff ..).1 hdup)

/-! ### A report taken by its owner (R27 to R31) -/

/-- A LEVEL report that is no duplicate is applied to the entry of its source; for a reserved one NEIGHBOUR_LOST is examined (R27, R38). -/
theorem State.takeLevel_of_new {s : State} {r : RawFrame} (hreg : s.le.station.regulates = true) (hsrc : r.src ≠ 255)
    (hnew : s.levelDuplicate r = false) :
    s.takeLevel r =
      if s.isReserved r.src then (s.applyToEntry r.src fun e => e.withLevel (readLevel r.payload) r.tag s.now).examineNeighbours
      else s.applyToEntry r.src fun e => e.withLevel (readLevel r.payload) r.tag s.now := by
  simp only [State.takeLevel, hreg, hsrc, hnew, Bool.false_eq_true, if_false, if_true]

/-- A PORTAL report that is no duplicate is applied to the entry of its source (R28). -/
theorem State.takePortal_of_new {s : State} {r : RawFrame} {side : Side} (hreg : s.le.station.regulates = true) (hsrc : r.src ≠ 255)
    (hside : (readPortal r.payload).side = some side) (hnew : s.portalDuplicate r = false) :
    s.takePortal r = s.applyToEntry r.src fun e => e.withPortal side (readPortal r.payload) r.tag s.now := by
  simp only [State.takePortal, hreg, hsrc, hside, hnew, Bool.false_eq_true, if_false, if_true]

/-- An IDENT is applied to the entry of its source (R29). -/
theorem State.takeIdent_of_heard {s : State} {r : RawFrame} (hreg : s.le.station.regulates = true) (hsrc : r.src ≠ 255) :
    s.takeIdent r = s.applyToEntry r.src fun e => e.withIdent (readRole r.payload) s.now := by
  simp only [State.takeIdent, hreg, hsrc, if_false, if_true]

/-- The side code of a side names it. -/
@[simp] theorem Side.ofCode_code (x : Side) : Side.ofCode x.code = some x := by cases x <;> rfl

/-- Outside LISTENING and RUNNING, and from source 255, no report is taken (R25, section 10.1). -/
theorem State.takeReport_ignored {s : State} {r : RawFrame} (h : s.le.station.regulates = false ∨ r.src = 255) :
    s.takeLevel r = s ∧ s.takePortal r = s ∧ s.takeIdent r = s := by
  rcases h with h | h
  · simp only [State.takeLevel, State.takePortal, State.takeIdent, h, Bool.false_eq_true, if_false, and_self]
  · refine ⟨?_, ?_, ?_⟩
    · simp only [State.takeLevel, h, if_true, ite_self]
    · cases hside : (readPortal r.payload).side with
      | none => simp only [State.takePortal, hside, ite_self]
      | some side => simp only [State.takePortal, hside, h, if_true, ite_self]
    · simp only [State.takeIdent, h, if_true, ite_self]

theorem State.Takes.exec_levelFrame {s : State} {f : Frame} (h : s.Takes .level 11 f) :
    exec (.levelFrame f) s = .next (s.afterFrame.takeLevel (rawOfFrame .level f)) :=
  congrArg Host.Outcome.next (h.frameStep_eq rfl)

theorem State.Takes.exec_portalFrame {s : State} {f : Frame} (h : s.Takes .portal 5 f) :
    exec (.portalFrame f) s = .next (s.afterFrame.takePortal (rawOfFrame .portal f)) :=
  congrArg Host.Outcome.next (h.frameStep_eq rfl)

theorem State.Takes.exec_identFrame {s : State} {f : Frame} (h : s.Takes .ident f.payload.length f) (hlo : 4 ≤ f.payload.length)
    (hhi : f.payload.length ≤ 48) : exec (.identFrame f) s = .next (s.afterFrame.takeIdent (rawOfFrame .ident f)) :=
  congrArg Host.Outcome.next (h.frameStep_eq (by simp [FrameKind.lengthFits, hlo, hhi]))

/-- Settles O17: the report is applied to the entry found or made, and for a reserved entry the examination of NEIGHBOUR_LOST follows. -/
theorem levelFrameTaken : Obligations.LevelFrameTaken := by
  intro s f e htakes hreg hsrc he hnew
  let u := s.afterFrame
  let r := rawOfFrame .level f
  have hentry : u.EntryFor r.src e := he
  obtain ⟨es, happlied, hfound, hothers⟩ := State.applyToEntry_of_entryFor hentry
    (g := fun x => x.withLevel (readLevel r.payload) r.tag u.now) fun _ => rfl
  have hexec := htakes.exec_levelFrame.trans (congrArg Host.Outcome.next
    (State.takeLevel_of_new (s := u) (r := r) hreg hsrc (State.levelDuplicate_eq_false hentry hnew)))
  rw [happlied, hentry.isReserved] at hexec
  by_cases hres : e.reserved = true
  · rw [if_pos hres] at hexec
    obtain ⟨hlost, hflag, honly⟩ := State.examineNeighbours_spec { u with pt := { u.pt with entries := es } }
    exact ⟨_, hexec, hfound, hothers, rfl, fun h => absurd hres (by simp [h]), fun _ => ⟨hlost, hflag, honly⟩, rfl⟩
  · rw [if_neg hres] at hexec
    exact ⟨_, hexec, hfound, hothers, rfl, fun _ => ⟨rfl, rfl⟩, fun h => absurd h hres, rfl⟩

/-- Settles O18: a side of the code taken is applied to the entry found or made; no other code names a side. -/
theorem portalFrameTaken : Obligations.PortalFrameTaken := by
  intro s f htakes hreg hsrc
  let u := s.afterFrame
  let r := rawOfFrame .portal f
  refine ⟨fun e side he hside hnew => ?taken, fun hnotA hnotB => ?discarded⟩
  case taken =>
    have hentry : u.EntryFor r.src e := he
    have hread : (readPortal r.payload).side = some side := by
      show Side.ofCode (byteAt f.payload 0) = some side
      rw [hside, Side.ofCode_code]
    obtain ⟨es, happlied, hfound, hothers⟩ := State.applyToEntry_of_entryFor hentry
      (g := fun x => x.withPortal side (readPortal r.payload) r.tag u.now) fun _ => rfl
    have hexec := htakes.exec_portalFrame.trans (congrArg Host.Outcome.next
      (State.takePortal_of_new (s := u) (r := r) hreg hsrc hread (State.portalDuplicate_eq_false hentry hnew)))
    rw [happlied] at hexec
    exact ⟨_, hexec, hfound, hothers, rfl⟩
  case discarded =>
    have hread : (readPortal r.payload).side = none := by
      show Side.ofCode (byteAt f.payload 0) = none
      rw [Side.ofCode, if_neg hnotA, if_neg hnotB]
    refine htakes.exec_portalFrame.trans (congrArg Host.Outcome.next ?_)
    rw [State.takePortal, if_pos hreg, hread]

/-- Settles O19: the role read is applied to the entry found or made. -/
theorem identFrameTaken : Obligations.IdentFrameTaken := by
  intro s f e hhi hlo htakes hreg hsrc he
  let u := s.afterFrame
  let r := rawOfFrame .ident f
  have hentry : u.EntryFor r.src e := he
  obtain ⟨es, happlied, hfound, hothers⟩ := State.applyToEntry_of_entryFor hentry
    (g := fun x => x.withIdent (readRole r.payload) u.now) fun _ => rfl
  have hexec := (htakes.exec_identFrame hlo hhi).trans (congrArg Host.Outcome.next
    (State.takeIdent_of_heard (s := u) (r := r) hreg hsrc))
  rw [happlied] at hexec
  exact ⟨_, hexec, hfound, hothers, rfl⟩

/-- Settles O20: a duplicate is what R30 says, and the other reports stop at the first branches of their owners. -/
theorem duplicateReportDiscarded : Obligations.DuplicateReportDiscarded := by
  intro s f
  refine ⟨fun e hreg hfound => ⟨fun l htakes hl htag hmark => ?level, fun p htakes hp htag hmark => ?portal⟩, fun hcase => ?ignored⟩
  case level =>
    have hdup : s.afterFrame.levelDuplicate (rawOfFrame .level f) = true := by
      show (match (findEntry s.pt.entries f.src).bind Entry.level with | some _ => _ | none => _) = true
      rw [hfound, Option.bind_some, hl]
      exact (isDuplicate_iff ..).2 ⟨htag, hmark⟩
    refine htakes.exec_levelFrame.trans (congrArg Host.Outcome.next ?_)
    simp only [State.takeLevel, hdup, if_true, ite_self]
  case portal =>
    have hdup : s.afterFrame.portalDuplicate (rawOfFrame .portal f) = true := by
      show (match (findEntry s.pt.entries f.src).bind Entry.portal with | some _ => _ | none => _) = true
      rw [hfound, Option.bind_some, hp]
      exact (isDuplicate_iff ..).2 ⟨htag, hmark⟩
    refine htakes.exec_portalFrame.trans (congrArg Host.Outcome.next ?_)
    cases hside : (readPortal (rawOfFrame .portal f).payload).side with
    | none => simp only [State.takePortal, hside, ite_self]
    | some side => simp only [State.takePortal, hside, hdup, if_true, ite_self]
  case ignored =>
    have hoff (k : FrameKind) : s.afterFrame.le.station.regulates = false ∨ (rawOfFrame k f).src = 255 := by
      rcases hcase with hsrc | hst
      · exact .inr hsrc
      · exact .inl (by rw [hst]; rfl)
    refine ⟨fun htakes => ?_, fun htakes => ?_, fun htakes hlo hhi => ?_⟩
    · exact htakes.exec_levelFrame.trans (congrArg Host.Outcome.next (State.takeReport_ignored (hoff .level)).1)
    · exact htakes.exec_portalFrame.trans (congrArg Host.Outcome.next (State.takeReport_ignored (hoff .portal)).2.1)
    · exact (htakes.exec_identFrame hlo hhi).trans (congrArg Host.Outcome.next (State.takeReport_ignored (hoff .ident)).2.2)

end Sys2Proof.Machine
end

section
/-! PROOF. The full peer table (R35, R36), and ageing (R32, R33, R38). -/

namespace Sys2Proof.Machine

/-! ### The victim of a full table (R35) -/

/-- The order in which LOST entries give way: greater age, no photometer side, luminaire mark clear, lower address (R35). -/
def State.yieldRank (s : State) (x : Entry) : ℕᵒᵈ ×ₗ Bool ×ₗ Bool ×ₗ ℕ :=
  toLex (OrderDual.toDual (s.age x.heardAt), toLex (x.side.isSome, toLex (x.luminaire, x.addr.toNat)))

theorem State.yieldRank_lt_iff (s : State) (v w : Entry) :
    s.yieldRank v < s.yieldRank w ↔
      s.age w.heardAt < s.age v.heardAt ∨ s.age w.heardAt = s.age v.heardAt ∧
        (v.side = none ∧ w.side ≠ none ∨ (v.side = none ↔ w.side = none) ∧
          (v.luminaire = false ∧ w.luminaire = true ∨ v.luminaire = w.luminaire ∧ v.addr < w.addr)) := by
  simp only [State.yieldRank, Prod.Lex.toLex_lt_toLex, OrderDual.toDual_lt_toDual, OrderDual.toDual_inj, Bool.lt_iff,
    BitVec.lt_def, Option.isSome_eq_false_iff, Option.isNone_iff_eq_none, Option.isSome_iff_ne_none]
  rw [eq_comm (a := s.age v.heardAt), Bool.eq_iff_iff (a := v.side.isSome), Option.isSome_iff_ne_none, Option.isSome_iff_ne_none,
    not_iff_not]

theorem State.givesWayBefore_iff (s : State) (x y : Entry) : s.givesWayBefore x y = true ↔ s.yieldRank x < s.yieldRank y := by
  rw [State.yieldRank_lt_iff]
  unfold State.givesWayBefore
  split
  · next hage => simp [Ne.symm hage]
  · next hage =>
    rw [not_not.1 hage]
    split
    · next hside => cases hx : x.side <;> cases hy : y.side <;> simp_all
    · next hside =>
      have hnone : x.side = none ↔ y.side = none := by
        rw [← Option.isNone_iff_eq_none, ← Option.isNone_iff_eq_none, not_not.1 hside]
      split
      · next hlum => cases hx : x.luminaire <;> cases hy : y.luminaire <;> simp_all
      · next hlum => simp [hnone, not_not.1 hlum]

/-- The victim gives way before every other candidate (R35). -/
theorem State.yieldRank_chooseVictim_le (s : State) : ∀ {es : List Entry} {v : Entry}, s.chooseVictim es = some v →
    ∀ w ∈ es, s.yieldRank v ≤ s.yieldRank w
  | [], v, h => by simp [State.chooseVictim] at h
  | e :: rest, v, h => by
    unfold State.chooseVictim at h
    split at h
    · next hnone =>
      rw [State.chooseVictim_none] at hnone
      subst hnone
      rw [Option.some.injEq] at h
      subst h
      simp
    · next u hu =>
      have hrest := s.yieldRank_chooseVictim_le hu
      split at h
      · next hbefore =>
        rw [Option.some.injEq] at h
        subst h
        rintro w (_ | ⟨_, hw⟩)
        · exact ((s.givesWayBefore_iff _ _).1 hbefore).le
        · exact hrest w hw
      · next hnot =>
        rw [Option.some.injEq] at h
        subst h
        rw [s.givesWayBefore_iff, not_lt] at hnot
        rintro w (_ | ⟨_, hw⟩)
        · exact le_rfl
        · exact hnot.trans (hrest w hw)

/-- Entries of one rank have one address. -/
theorem State.addr_eq_of_yieldRank_eq {s : State} {v w : Entry} (h : s.yieldRank v = s.yieldRank w) : v.addr = w.addr := by
  simp only [State.yieldRank, toLex_inj, Prod.mk.injEq] at h
  exact BitVec.eq_of_toNat_eq h.2.2.2

/-- In a table in address order an address names one entry. -/
theorem eq_of_addr_eq {es : List Entry} (h : es.Pairwise fun x y => x.addr < y.addr) {v w : Entry} (hv : v ∈ es) (hw : w ∈ es)
    (haddr : v.addr = w.addr) : v = w := by
  have hnodup : (es.map Entry.addr).Nodup := List.pairwise_map.2 (h.imp fun hlt => BitVec.ne_of_lt hlt)
  exact List.inj_on_of_nodup_map hnodup hv hw haddr

/-- Taking an entry out of a table in address order takes out that entry alone. -/
theorem length_removeEntry {es : List Entry} (h : es.Pairwise fun x y => x.addr < y.addr) {v : Entry} (hv : v ∈ es) :
    (removeEntry es v.addr).length + 1 = es.length := by
  induction es with
  | nil => simp at hv
  | cons y rest ih =>
    obtain ⟨hy, hrest⟩ := List.pairwise_cons.1 h
    by_cases haddr : y.addr = v.addr
    · have hkept : removeEntry rest v.addr = rest :=
        List.filter_eq_self.2 fun x hx => by simpa [← haddr] using (BitVec.ne_of_lt (hy x hx)).symm
      have hout : removeEntry (y :: rest) v.addr = removeEntry rest v.addr := List.filter_cons_of_neg (by simp [haddr])
      rw [hout, hkept, List.length_cons]
    · have hv' : v ∈ rest := (List.mem_cons.1 hv).resolve_left fun heq => haddr (heq ▸ rfl)
      have hin : removeEntry (y :: rest) v.addr = y :: removeEntry rest v.addr := List.filter_cons_of_pos (by simpa using haddr)
      rw [hin, List.length_cons, List.length_cons, ih hrest hv']

/-- Some ordinary entry that is LOST makes a victim, which yields before every other one (R35). -/
theorem State.exists_victim {s : State} (hsorted : s.pt.entries.Pairwise fun x y => x.addr < y.addr)
    (h : ∃ e ∈ s.pt.entries, e.reserved = false ∧ s.entryLost e = true) :
    ∃ v, s.victim = some v ∧ v ∈ s.pt.entries ∧ v.reserved = false ∧ s.entryLost v = true ∧
      ∀ w ∈ s.pt.entries, w.reserved = false → s.entryLost w = true → w ≠ v → s.yieldRank v < s.yieldRank w := by
  have hcandidate (e : Entry) : e ∈ (s.pt.entries.filter fun e => !e.reserved && s.entryLost e) ↔
      e ∈ s.pt.entries ∧ e.reserved = false ∧ s.entryLost e = true := by simp
  cases hv : s.victim with
  | none =>
    obtain ⟨e, he⟩ := h
    have hempty := s.chooseVictim_none.1 hv
    exact absurd ((hcandidate e).2 he) (by simp [hempty])
  | some v =>
    obtain ⟨hmem, hres, hlost⟩ := (hcandidate v).1 (s.chooseVictim_mem hv)
    refine ⟨v, rfl, hmem, hres, hlost, fun w hw hwres hwlost hne => ?_⟩
    refine lt_of_le_of_ne (s.yieldRank_chooseVictim_le hv w ((hcandidate w).2 ⟨hw, hwres, hwlost⟩)) fun heq => hne ?_
    exact eq_of_addr_eq hsorted hw hmem (State.addr_eq_of_yieldRank_eq heq.symm)

/-- Without an ordinary entry that is LOST there is no victim (R36). -/
theorem State.victim_eq_none {s : State} (h : ∀ e ∈ s.pt.entries, e.reserved = true ∨ s.entryLost e = false) : s.victim = none := by
  refine s.chooseVictim_none.2 (List.filter_eq_nil_iff.2 fun e he => ?_)
  rcases h e he with hres | hlost
  · simp [hres]
  · simp [hlost]

/-! ### A report of an unknown source -/

/-- What a report makes of a new entry for its source, by the command that brings it (R22, R27 to R29). -/
def NewEntryOf (c : Instr) (f : Frame) (now : Time) (e : Entry) : Prop :=
  let made : Entry := { addr := f.src, reserved := false, side := none, luminaire := false, heardAt := now, agedOut := false,
                        portal := none, level := none }
  (c = .levelFrame f →
    e = { made with luminaire := decide (1 ≤ (byteAt f.payload 8).toNat / 16),
                    level := some { delivered := min (fieldAt f.payload 0) 2000, restart := (byteAt f.payload 6).getLsbD 7,
                                    tag := f.tag, takenAt := now, aged := .fresh } }) ∧
  (∀ side, c = .portalFrame f → byteAt f.payload 0 = side.code →
    e = { made with side := some side,
                    portal := some { side := side, luminance := min (fieldAt f.payload 1) 16000,
                                     sensorFault := (byteAt f.payload 4).getLsbD 1, restart := (byteAt f.payload 4).getLsbD 7,
                                     tag := f.tag, takenAt := now, aged := .fresh } }) ∧
  (c = .identFrame f → e = { made with side := (readRole f.payload).1, luminaire := (readRole f.payload).2 })

/-- A frame of a kind that makes an entry, from an unknown source, is applied to the table (R27 to R29). -/
theorem exec_of_unknown {s : State} {c : Instr} {f : Frame}
    (hc : c = .levelFrame f ∧ s.Takes .level 11 f ∨
      c = .portalFrame f ∧ s.Takes .portal 5 f ∧ (byteAt f.payload 0 = 1 ∨ byteAt f.payload 0 = 2) ∨
      c = .identFrame f ∧ s.Takes .ident f.payload.length f ∧ 4 ≤ f.payload.length ∧ f.payload.length ≤ 48)
    (hreg : s.le.station.regulates = true) (hsrc : f.src ≠ 255) (hunknown : findEntry s.pt.entries f.src = none) :
    ∃ g : Entry → Entry, exec c s = .next (s.afterFrame.applyToEntry f.src g) ∧ (∀ x, (g x).addr = x.addr) ∧
      NewEntryOf c f s.now (g (newEntry f.src false s.now)) := by
  have hnobody (k : FrameKind) : findEntry s.afterFrame.pt.entries (rawOfFrame k f).src = none := hunknown
  rcases hc with ⟨rfl, htakes⟩ | ⟨rfl, htakes, hcode⟩ | ⟨rfl, htakes, hlo, hhi⟩
  · have hnew : s.afterFrame.levelDuplicate (rawOfFrame .level f) = false := by simp [State.levelDuplicate, hnobody]
    have hordinary : s.afterFrame.isReserved (rawOfFrame .level f).src = false := by simp [State.isReserved, hnobody]
    refine ⟨fun e => e.withLevel (readLevel f.payload) f.tag s.now, htakes.exec_levelFrame.trans (congrArg _ ?_), fun _ => rfl,
      fun _ => rfl, by rintro side ⟨⟩, by rintro ⟨⟩⟩
    rw [State.takeLevel_of_new (s := s.afterFrame) hreg hsrc hnew, hordinary]
    rfl
  · obtain ⟨side, hside⟩ : ∃ side : Side, byteAt f.payload 0 = side.code := by
      rcases hcode with h | h
      · exact ⟨.a, h⟩
      · exact ⟨.b, h⟩
    have hread : (readPortal (rawOfFrame .portal f).payload).side = some side := by
      show Side.ofCode (byteAt f.payload 0) = some side
      rw [hside, Side.ofCode_code]
    have hnew : s.afterFrame.portalDuplicate (rawOfFrame .portal f) = false := by simp [State.portalDuplicate, hnobody]
    refine ⟨fun e => e.withPortal side (readPortal f.payload) f.tag s.now, htakes.exec_portalFrame.trans (congrArg _ ?_),
      fun _ => rfl, by rintro ⟨⟩, fun other _ hother => ?_, by rintro ⟨⟩⟩
    · rw [State.takePortal_of_new (s := s.afterFrame) hreg hsrc hread hnew]
      rfl
    · have hsame : side = other := by
        simpa using congrArg Side.ofCode (hside.symm.trans hother)
      rw [← hsame]
      rfl
  · refine ⟨fun e => e.withIdent (readRole f.payload) s.now, (htakes.exec_identFrame hlo hhi).trans (congrArg _ ?_), fun _ => rfl,
      by rintro ⟨⟩, by rintro side ⟨⟩, fun _ => rfl⟩
    exact State.takeIdent_of_heard (s := s.afterFrame) hreg hsrc

/-- Settles O21: the frame is applied to a table without room, where a victim is the candidate of least rank. -/
theorem fullTableReplacesOrRefuses : Obligations.FullTableReplacesOrRefuses := by
  intro s c f hc hreg hsrc hfull hunknown hsorted
  obtain ⟨g, hexec, hg, hmade⟩ := exec_of_unknown hc hreg hsrc hunknown
  have hnoroom : ¬s.pt.entries.length < tableSize := by
    rw [hfull]
    decide
  have hroom : s.afterFrame.withRoomFor f.src =
      s.victim.map fun v => insertEntry (newEntry f.src false s.now) (removeEntry s.pt.entries v.addr) := by
    rw [State.withRoomFor_withLine]
    exact if_neg hnoroom
  refine ⟨fun hlost => ?replaced, fun hnone => ?refused⟩
  case replaced =>
    obtain ⟨v, hv, hmem, hres, hvlost, hleast⟩ := State.exists_victim hsorted hlost
    have happlied : s.afterFrame.applyToEntry f.src g = { s.afterFrame with pt := { s.pt with
        entries := updateEntry (insertEntry (newEntry f.src false s.now) (removeEntry s.pt.entries v.addr)) f.src g } } := by
      unfold State.applyToEntry
      rw [hunknown, hroom, hv]
      rfl
    have hother : f.src ≠ v.addr := fun h => findEntry_none.1 hunknown v hmem h.symm
    have hgone : findEntry (removeEntry s.pt.entries v.addr) (newEntry f.src false s.now).addr = none := by
      exact (findEntry_removeEntry v.addr f.src _).trans ((if_neg (Ne.symm hother)).trans hunknown)
    have hfind (a : Byte) : findEntry (updateEntry (insertEntry (newEntry f.src false s.now) (removeEntry s.pt.entries v.addr)) f.src g) a =
        if f.src = a then some (g (newEntry f.src false s.now))
        else if v.addr = a then none else findEntry s.pt.entries a := by
      rw [findEntry_updateEntry hg, findEntry_insertEntry a hgone, findEntry_removeEntry]
      by_cases ha : f.src = a
      · simp [ha, newEntry]
      · simp [ha, newEntry]
    rw [happlied] at hexec
    refine ⟨_, v, g (newEntry f.src false s.now), hexec, hmem, hres, hvlost, fun w hw hwres hwlost hne => ?_, ?_, ?_, hmade,
      fun a ha hav => ?_, ?_, rfl⟩
    · exact (s.yieldRank_lt_iff v w).1 (hleast w hw hwres hwlost hne)
    · exact (hfind v.addr).trans (by rw [if_neg hother, if_pos rfl])
    · exact (hfind f.src).trans (if_pos rfl)
    · exact (hfind a).trans (by rw [if_neg (Ne.symm ha), if_neg (Ne.symm hav)])
    · show (updateEntry _ _ _).length = 32
      rw [updateEntry, List.length_map, length_insertEntry, length_removeEntry hsorted hmem, hfull]
  case refused =>
    have happlied : s.afterFrame.applyToEntry f.src g = s.afterFrame.raiseIf true .tableFull := by
      unfold State.applyToEntry
      rw [hunknown, hroom, State.victim_eq_none hnone]
      rfl
    rw [happlied] at hexec
    exact ⟨_, hexec, rfl, rfl, rfl⟩

/-! ### Ageing (R32, R33) -/

/-- A part between the limits is STALE, and at a limit the events taken decide (R32, log 29). -/
theorem freshnessOf_eq_stale_iff {stale lost : Nat} (hl : stale < lost) (age : Time) (aged : Freshness) :
    freshnessOf stale lost age aged = .stale ↔
      (ms stale < age ∨ age = ms stale ∧ aged ≠ .fresh) ∧ (age < ms lost ∨ age = ms lost ∧ aged ≠ .lost) := by
  have hfresh := freshnessOf_eq_fresh_iff stale lost age aged
  have hlost := freshnessOf_eq_lost_iff hl age aged
  have hm : ms stale < ms lost := Nat.mul_lt_mul_of_pos_right hl (by decide)
  generalize ms stale = x at *
  generalize ms lost = y at *
  simp only [Time] at *
  cases hf : freshnessOf stale lost age aged <;> cases aged <;> simp_all <;> omega

/-- The age of a part whose limit the clock has just come to (R32). -/
theorem State.age_at_limit (s : State) {taken : Time} {limit : Nat} (hlimit : limit ≤ 60000) (hnow : s.now = taken + 20000 * limit) :
    s.age taken = ms limit := by
  have hcap : ageLimit = 1310700000 := rfl
  rw [State.age, ageAt, hnow, hcap, ms_eq]
  simp only [Time] at *
  omega

/-- An entry with parts is LOST exactly when each of them is (R33). -/
theorem State.entryLost_of_part (s : State) {e : Entry} (h : e.portal ≠ none ∨ e.level ≠ none) :
    s.entryLost e = true ↔ (∀ p, e.portal = some p → s.freshness p.takenAt p.aged = .lost) ∧
      ∀ l, e.level = some l → s.freshness l.takenAt l.aged = .lost := by
  unfold State.entryLost
  cases hp : e.portal with
  | none =>
    cases hl : e.level with
    | none => simp [hp, hl] at h
    | some l => simp [State.levelFreshness]
  | some p =>
    cases hl : e.level with
    | none => simp [State.portalFreshness]
    | some l => simp [State.portalFreshness, State.levelFreshness]

/-- An entry without parts is LOST beyond the lost time, and at it once ENTRY_LOST has been taken (R33, log 29). -/
theorem State.entryLost_without_parts (s : State) {e : Entry} (hportal : e.portal = none) (hlevel : e.level = none) :
    s.entryLost e = true ↔ 20000 * s.cfg.lostTime < min (s.now - e.heardAt) 1310700000 ∨
      20000 * s.cfg.lostTime = min (s.now - e.heardAt) 1310700000 ∧ e.agedOut = true := by
  have hage : s.age e.heardAt = min (s.now - e.heardAt) 1310700000 := rfl
  unfold State.entryLost
  rw [hportal, hlevel]
  dsimp only
  rw [reached_iff, hage, ms_eq, eq_comm (a := min _ _)]

/-- A change of one entry that keeps its address, seen by lookup. -/
theorem findEntry_changeEntry {s : State} {addr : Byte} {e : Entry} (he : findEntry s.pt.entries addr = some e) {g : Entry → Entry}
    (hg : ∀ x, (g x).addr = x.addr) (now : Time) :
    findEntry ((s.elapseTo now).changeEntry addr g).pt.entries addr = some (g e) ∧
      ∀ a, a ≠ addr → findEntry ((s.elapseTo now).changeEntry addr g).pt.entries a = findEntry s.pt.entries a := by
  have hfind := findEntry_updateEntry hg addr
  refine ⟨(hfind addr s.pt.entries).trans ?_, fun a ha => (hfind a s.pt.entries).trans (if_neg (Ne.symm ha))⟩
  rw [if_pos rfl, he]
  rfl

theorem Entry.agePart_addr (e : Entry) (part : PartKind) (f : Freshness) : (e.agePart part f).addr = e.addr := by
  cases part <;> rfl

/-- When and how far the part of an entry was taken. -/
def Entry.partState (e : Entry) : PartKind → Option (Time × Freshness)
  | .levelPart => e.level.map fun l => (l.takenAt, l.aged)
  | .portalPart => e.portal.map fun p => (p.takenAt, p.aged)

/-- The entry with its part aged to `x`. -/
def Entry.withAged (e : Entry) (part : PartKind) (x : Freshness) : Entry :=
  match part with
  | .levelPart => { e with level := e.level.map fun l => { l with aged := x } }
  | .portalPart => { e with portal := e.portal.map fun p => { p with aged := x } }

theorem Entry.agePart_eq_withAged {e : Entry} {part : PartKind} {taken : Time} {aged f x : Freshness}
    (he : e.partState part = some (taken, aged)) (hx : aged.later f = x) : e.agePart part f = e.withAged part x := by
  subst hx
  cases part with
  | levelPart =>
    obtain ⟨l, hl, hpart⟩ := Option.map_eq_some_iff.1 he
    cases hpart
    simp [Entry.agePart, Entry.withAged, hl]
  | portalPart =>
    obtain ⟨p, hp, hpart⟩ := Option.map_eq_some_iff.1 he
    cases hpart
    simp [Entry.agePart, Entry.withAged, hp]

theorem State.partTakenAt_eq {s : State} {addr : Byte} {e : Entry} {part : PartKind} {taken : Time} {aged : Freshness}
    (he : findEntry s.pt.entries addr = some e) (hpart : e.partState part = some (taken, aged)) :
    s.partTakenAt addr part = some taken := by
  cases part with
  | levelPart =>
    obtain ⟨l, hl, hsame⟩ := Option.map_eq_some_iff.1 hpart
    cases hsame
    simp [State.partTakenAt, he, hl]
  | portalPart =>
    obtain ⟨p, hp, hsame⟩ := Option.map_eq_some_iff.1 hpart
    cases hsame
    simp [State.partTakenAt, he, hp]

/-- At the very instant of the stale time PART_STALE decides (R32, log 29). -/
theorem State.freshness_at_stale {s : State} {taken : Time} (hlimits : s.cfg.staleTime < s.cfg.lostTime)
    (hlost : s.cfg.lostTime ≤ 60000) (hnow : s.now = taken + 20000 * s.cfg.staleTime) :
    s.freshness taken .stale = .stale ∧ s.freshness taken .fresh = .fresh := by
  have hage := s.age_at_limit (by omega) hnow
  have hbelow : ms s.cfg.staleTime < ms s.cfg.lostTime := Nat.mul_lt_mul_of_pos_right hlimits (by decide)
  rw [State.freshness, State.freshness, hage]
  exact ⟨(freshnessOf_eq_stale_iff hlimits _ _).2 ⟨.inr ⟨rfl, by decide⟩, .inl hbelow⟩,
    (freshnessOf_eq_fresh_iff _ _ _ _).2 (.inr ⟨rfl, rfl⟩)⟩

/-- At the very instant of the lost time PART_LOST decides (R32, log 29). -/
theorem State.freshness_at_lost {s : State} {taken : Time} (hlimits : s.cfg.staleTime < s.cfg.lostTime)
    (hlost : s.cfg.lostTime ≤ 60000) (hnow : s.now = taken + 20000 * s.cfg.lostTime) :
    s.freshness taken .lost = .lost ∧ s.freshness taken .stale = .stale := by
  have hage := s.age_at_limit hlost hnow
  have hbelow : ms s.cfg.staleTime < ms s.cfg.lostTime := Nat.mul_lt_mul_of_pos_right hlimits (by decide)
  rw [State.freshness, State.freshness, hage]
  exact ⟨(freshnessOf_eq_lost_iff hlimits _ _).2 (.inr ⟨rfl, rfl⟩),
    (freshnessOf_eq_stale_iff hlimits _ _).2 ⟨.inl hbelow, .inr ⟨rfl, by decide⟩⟩⟩

/-- The state with a part aged at a limit of its age, before NEIGHBOUR_LOST is examined. -/
def State.partAgedAt (s : State) (addr : Byte) (part : PartKind) (f : Freshness) (now : Time) : State :=
  (s.elapseTo now).changeEntry addr (·.agePart part f)

theorem State.exec_partStale {s : State} {addr : Byte} {part : PartKind} {e : Entry} {taken : Time} {aged : Freshness}
    (hreg : s.le.station.regulates = true) (he : findEntry s.pt.entries addr = some e) (hpart : e.partState part = some (taken, aged)) :
    exec (.partStale addr part) s =
      .next (if part = .levelPart ∧ e.reserved = true
        then (s.partAgedAt addr part .stale (taken + 20000 * s.cfg.staleTime)).examineNeighbours
        else s.partAgedAt addr part .stale (taken + 20000 * s.cfg.staleTime)) := by
  have hres : s.isReserved addr = e.reserved := State.EntryFor.isReserved (.inl he)
  simp only [exec, execPartStale, State.partTakenAt_eq he hpart, hreg, hres, if_true, State.partAgedAt, ms_eq]

theorem State.exec_partLost {s : State} {addr : Byte} {part : PartKind} {e : Entry} {taken : Time} {aged : Freshness}
    (hreg : s.le.station.regulates = true) (he : findEntry s.pt.entries addr = some e) (hpart : e.partState part = some (taken, aged)) :
    exec (.partLost addr part) s = .next (s.partAgedAt addr part .lost (taken + 20000 * s.cfg.lostTime)) := by
  simp only [exec, execPartLost, State.partTakenAt_eq he hpart, hreg, if_true, State.partAgedAt, ms_eq]

/-- A reserved entry whose level part has just become STALE is a missing neighbour (R38). -/
theorem State.neighbourMissing_of_stale {s : State} {addr : Byte} {e : Entry} {taken : Time} {aged : Freshness}
    (hfound : findEntry s.pt.entries addr = some (e.withAged .levelPart .stale)) (hres : e.reserved = true)
    (hpart : e.partState .levelPart = some (taken, aged)) (hlimit : s.cfg.staleTime ≤ 60000)
    (hnow : s.now = taken + 20000 * s.cfg.staleTime) : s.NeighbourMissing := by
  obtain ⟨l, hl, hsame⟩ := Option.map_eq_some_iff.1 hpart
  cases hsame
  refine ⟨_, (findEntry_some hfound).1, hres, fun m hm => .inr ?_⟩
  simp only [Entry.withAged, hl, Option.map_some, Option.some.injEq] at hm
  subst hm
  have hage : min (s.now - l.takenAt) 1310700000 = ms s.cfg.staleTime := s.age_at_limit hlimit hnow
  exact ⟨by rw [hage, ms_eq], nofun⟩

/-- Settles O22: the limits are those of `freshnessOf`; a freshness event changes its part alone, and the examination that follows
PART_STALE finds a reserved entry missing. -/
theorem ageingChangesFreshness : Obligations.AgeingChangesFreshness := by
  intro s addr hreg hlimits hlost
  refine ⟨fun taken aged => ?limits, fun e => ⟨s.entryLost_of_part, s.entryLost_without_parts⟩,
    fun e part taken aged he hpart => ?parts, fun e he hportal hlevel hnow => ?entry⟩
  case limits =>
    have hage : s.age taken = min (s.now - taken) 1310700000 := rfl
    dsimp only
    rw [State.freshness, ← hage, freshnessOf_eq_fresh_iff, freshnessOf_eq_stale_iff hlimits, freshnessOf_eq_lost_iff hlimits,
      ms_eq, ms_eq]
    exact ⟨.inl, fun hs hl => ⟨.inl hs, .inl hl⟩, .inl⟩
  case parts =>
    have hstate : e.partState part = some (taken, aged) := by cases part <;> exact hpart
    have hkeeps (f : Freshness) (x : Entry) : (x.agePart part f).addr = x.addr := x.agePart_addr part f
    refine ⟨fun hnotlost hnow => ?becomesStale, fun hnow => ?becomesLost⟩
    case becomesStale =>
      have hlater : aged.later .stale = .stale := by cases aged <;> simp_all [Freshness.later]
      obtain ⟨hfound, hothers⟩ := findEntry_changeEntry he (hkeeps .stale) (taken + 20000 * s.cfg.staleTime)
      rw [Entry.agePart_eq_withAged hstate hlater] at hfound
      have hclock : max s.now (taken + 20000 * s.cfg.staleTime) = taken + 20000 * s.cfg.staleTime := max_eq_right hnow
      obtain ⟨hstale, hfresh⟩ := State.freshness_at_stale (s := s.partAgedAt addr part .stale (taken + 20000 * s.cfg.staleTime))
        hlimits hlost hclock
      have hexec := State.exec_partStale hreg he hstate
      by_cases hexamined : part = .levelPart ∧ e.reserved = true
      · obtain ⟨hcondition, hflag, honly⟩ :=
          (s.partAgedAt addr part .stale (taken + 20000 * s.cfg.staleTime)).examineNeighbours_spec
        rw [if_pos hexamined] at hexec
        obtain ⟨rfl, hres⟩ := hexamined
        refine ⟨_, hexec, hclock, hfound, hstale, hfresh, hothers, fun _ hrun _ => ?_, honly, fun h => ?_, rfl⟩
        · have hmissing := State.neighbourMissing_of_stale
            (s := (s.partAgedAt addr .levelPart .stale (taken + 20000 * s.cfg.staleTime)).examineNeighbours)
            hfound hres hstate (hlimits.le.trans hlost) hclock
          have hpresent := hcondition.2 ⟨hrun, hmissing⟩
          exact ⟨hpresent, hflag hpresent⟩
        · simp [hres] at h
      · rw [if_neg hexamined] at hexec
        refine ⟨_, hexec, hclock, hfound.trans (by cases part <;> rfl), hstale, hfresh, hothers, fun hlevel _ hres => absurd ⟨hlevel, hres⟩ hexamined,
          ⟨rfl, fun g => ⟨id, fun _ => rfl⟩⟩, fun _ => ⟨rfl, rfl⟩, rfl⟩
    case becomesLost =>
      obtain ⟨hfound, hothers⟩ := findEntry_changeEntry he (hkeeps .lost) (taken + 20000 * s.cfg.lostTime)
      rw [Entry.agePart_eq_withAged hstate aged.later_lost] at hfound
      have hclock : max s.now (taken + 20000 * s.cfg.lostTime) = taken + 20000 * s.cfg.lostTime := max_eq_right hnow
      obtain ⟨hgone, hstale⟩ := State.freshness_at_lost (s := s.partAgedAt addr part .lost (taken + 20000 * s.cfg.lostTime))
        hlimits hlost hclock
      exact ⟨_, State.exec_partLost hreg he hstate, hclock, hfound.trans (by cases part <;> rfl), hgone, hstale, hothers, rfl⟩
  case entry =>
    let t := (s.elapseTo (e.heardAt + 20000 * s.cfg.lostTime)).changeEntry addr fun x => { x with agedOut := true }
    have hexec : exec (.entryLost addr) s = .next t := by
      simp only [exec, execEntryLost, he, hreg, hportal, hlevel, Option.isNone_none, Bool.and_self, if_true, ms_eq, t]
    obtain ⟨hfound, hothers⟩ := findEntry_changeEntry he (g := fun x => { x with agedOut := true }) (fun _ => rfl)
      (e.heardAt + 20000 * s.cfg.lostTime)
    have hclock : t.now = e.heardAt + 20000 * s.cfg.lostTime := max_eq_right hnow
    have hage : min (t.now - e.heardAt) 1310700000 = 20000 * s.cfg.lostTime := by
      rw [← ms_eq]
      exact t.age_at_limit hlost hclock
    refine ⟨t, hexec, hclock, hfound, ?_, ?_, hothers, rfl⟩
    · exact (t.entryLost_without_parts (e := { e with agedOut := true }) hportal hlevel).2 (.inr ⟨hage.symm, rfl⟩)
    · refine Bool.eq_false_iff.2 fun hgone => ?_
      rcases (t.entryLost_without_parts (e := { e with agedOut := false }) hportal hlevel).1 hgone with hbeyond | ⟨-, htaken⟩
      · exact absurd (hage ▸ hbeyond) (lt_irrefl _)
      · cases htaken

end Sys2Proof.Machine
end

section
/-! PROOF. The candidates of a side (R43, R44) and the directions of rounding (R53, R64, R76). -/

namespace Sys2Proof.Machine

/-! ### Candidates (R43, R44) -/

theorem mem_insertReading (r x : Byte × Nat) (l : List (Byte × Nat)) : x ∈ insertReading r l ↔ x = r ∨ x ∈ l := by
  induction l with
  | nil => simp [insertReading]
  | cons y rest ih =>
    unfold insertReading
    split
    · simp
    · simp only [List.mem_cons, ih]
      tauto

/-- The own reading takes its place in the address order (R44). -/
theorem pairwise_insertReading {r : Byte × Nat} {l : List (Byte × Nat)} (h : l.Pairwise fun u v => u.1 < v.1)
    (hnew : ∀ x ∈ l, x.1 ≠ r.1) : (insertReading r l).Pairwise fun u v => u.1 < v.1 := by
  induction l with
  | nil => simp [insertReading]
  | cons y rest ih =>
    obtain ⟨hy, hrest⟩ := List.pairwise_cons.1 h
    unfold insertReading
    split
    · next hlt =>
      refine List.pairwise_cons.2 ⟨fun x hx => ?_, h⟩
      rcases List.mem_cons.1 hx with rfl | hx
      · exact hlt
      · exact BitVec.lt_trans hlt (hy x hx)
    · next hlt =>
      refine List.pairwise_cons.2 ⟨fun x hx => ?_, ih hrest fun x hx => hnew x (List.mem_cons_of_mem _ hx)⟩
      rcases (mem_insertReading r x rest).1 hx with rfl | hx
      · have hne := hnew y List.mem_cons_self
        bv_omega
      · exact hy x hx

/-- A candidate among the peers is a FRESH portal part of the side without the SENSOR_FAULT mark (R43). -/
theorem State.mem_peerCandidates (s : State) (x : Side) (a : Byte) (l : Nat) :
    (a, l) ∈ s.peerCandidates x ↔ ∃ e ∈ s.pt.entries, ∃ p, e.portal = some p ∧ e.addr = a ∧ p.luminance = l ∧ p.side = x ∧
      p.sensorFault = false ∧ s.freshness p.takenAt p.aged = .fresh := by
  rw [State.peerCandidates, List.mem_filterMap]
  refine exists_congr fun e => and_congr_right fun _ => ?_
  cases e.portal with
  | none => simp
  | some p =>
    have hcandidate : s.isCandidate x p = true ↔ p.side = x ∧ p.sensorFault = false ∧ s.freshness p.takenAt p.aged = .fresh := by
      simp only [State.isCandidate, State.portalFreshness, Bool.and_eq_true, beq_iff_eq, Bool.not_eq_true']
      tauto
    by_cases hc : s.isCandidate x p = true
    · simp [hc, hcandidate.1 hc]
    · have hnot := mt hcandidate.2 hc
      simp only [hc, Bool.false_eq_true, if_false, reduceCtorEq, Option.some.injEq, exists_eq_left', false_iff]
      rintro ⟨-, -, hall⟩
      exact hnot hall

/-- The peers' candidates stand in the order of their entries (R37). -/
theorem State.pairwise_peerCandidates {s : State} (h : s.pt.entries.Pairwise fun x y => x.addr < y.addr) (x : Side) :
    (s.peerCandidates x).Pairwise fun u v => u.1 < v.1 := by
  refine List.Pairwise.filterMap _ (fun e f hlt u hu v hv => ?_) h
  have haddr {e : Entry} {u : Byte × Nat} (hu : (match e.portal with
      | some p => if s.isCandidate x p then some (e.addr, p.luminance) else none
      | none => none) = some u) : u.1 = e.addr := by
    cases hp : e.portal with
    | none => simp [hp] at hu
    | some p =>
      simp only [hp] at hu
      split at hu
      · cases hu
        rfl
      · cases hu
  rw [haddr hu, haddr hv]
  exact hlt

/-- Settles O23: the own reading is set among the peers' candidates by address, which no entry of a sound table shares. -/
theorem candidatesGathered : Obligations.CandidatesGathered := by
  intro s x
  refine ⟨fun a l => ?members, fun hsound => ?sorted⟩
  case members =>
    unfold State.candidates
    cases hr : s.pfe.reading with
    | none => simp [State.mem_peerCandidates]
    | some own =>
      by_cases hside : s.cfg.side = some x
      · simp only [hside, if_true, mem_insertReading, State.mem_peerCandidates, Prod.mk.injEq, Option.some.injEq, true_and]
        refine or_congr_left ⟨fun ⟨ha, hl⟩ => ⟨hl.symm, ha⟩, fun ⟨hl, ha⟩ => ⟨ha, hl.symm⟩⟩
      · simp [hside, State.mem_peerCandidates]
  case sorted =>
    obtain ⟨-, hsorted, haddrs, -, -⟩ := hsound
    have hpeers := State.pairwise_peerCandidates hsorted x
    unfold State.candidates
    split
    · split
      · refine pairwise_insertReading hpeers fun u hu => ?_
        obtain ⟨e, he, -, -, haddr, -⟩ := (s.mem_peerCandidates x u.1 u.2).1 hu
        obtain ⟨-, -, hother⟩ := haddrs e he
        exact haddr ▸ hother
      · exact hpeers
    · exact hpeers

/-! ### Rounding (R53, R64, R76) -/

theorem portalDemand_le_iff (h r m : Nat) : portalDemand h r ≤ m ↔ h * r ≤ m * 1000 := by
  unfold portalDemand
  omega

/-- The counts are the least that give the target (R76). -/
theorem countsFor_le_iff {l e : Nat} (he : 1 ≤ e) (m : Nat) : countsFor l e ≤ m ↔ l * 10000 ≤ m * e := by
  unfold countsFor
  rw [Nat.div_le_iff_le_mul_add_pred he, Nat.mul_comm e m]
  omega

/-- Settles O26: each rounding is a division whose result is compared with a whole number. -/
theorem roundingIsTowardLight : Obligations.RoundingIsTowardLight := by
  refine ⟨fun l k t => ?nearest, fun h r m => (portalDemand_le_iff h r m).symm, fun l k t r hl hk ht hr => ?bounds,
    fun l e m he => (countsFor_le_iff he m).symm, fun l e he => ?clamps, fun l e he _ hle => ?delivers⟩
  case nearest =>
    unfold threshold
    generalize l * k * t = x
    omega
  case bounds =>
    have hlk : l * k ≤ 1600000 := Nat.mul_le_mul hl hk
    have hlkt : l * k * t ≤ 1920000000 := Nat.mul_le_mul hlk ht
    have hthreshold : threshold l k t ≤ 1920 := by
      unfold threshold
      omega
    have hproduct : threshold l k t * r ≤ 1920000 := Nat.mul_le_mul hthreshold hr
    exact ⟨hthreshold, (portalDemand_le_iff _ _ _).2 hproduct⟩
  case clamps =>
    rw [← not_le, countsFor_le_iff he]
    omega
  case delivers =>
    have hunclamped : countsFor l e ≤ 10000 := (countsFor_le_iff he 10000).2 (by omega)
    have hcovers : l * 10000 ≤ countsFor l e * e := (countsFor_le_iff he _).1 le_rfl
    have hbelow : countsFor l e * e ≤ l * 10000 + e - 1 := Nat.div_mul_le_self _ _
    have hlevel : requiredLevel l e = countsFor l e := min_eq_left hunclamped
    rw [deliveredLuminance, hlevel]
    generalize countsFor l e * e = x at *
    omega

end Sys2Proof.Machine
end

section
/-! PROOF. The level update in each station state (R82 to R98), with the sides (R45 to R49), the demand (R53 to R77) and the commands
(R121 to R124) it forms; and the entry to RUNNING (R92). -/

namespace Sys2Proof.Machine

/-! ### The level update, in two parts -/

/-- The state that a level update starts from: the clock at the expiry and the update timer restarted (R82). -/
def State.timed (s : State) (due : Time) : State :=
  { s.elapseTo due with le := { s.le with updateTimer := some (max s.now due + 2000000) } }

theorem exec_levelUpdate {s : State} {due : Time} (hdue : s.le.updateTimer = some due) :
    exec .levelUpdate s = .next (s.timed due).levelUpdate := by
  simp only [exec, execLevelUpdate, hdue]
  rfl

/-- The end of a level update, in every station state: the level engine's values, the level handed over, and the report (R89, R95). -/
def State.settled (d : State) (e : LevelEngine) (yield : Nat) : State := (({ d with le := e } : State).handOver e.level).report yield

/-- What LISTENING sets in the level engine (R88, R92). -/
def LevelEngine.starting (e : LevelEngine) (target : Option Nat) : LevelEngine :=
  { e with level := fullLevel, target := fullLevel, reportedTerm := some .start, reportedTarget := target }

/-- What FALLBACK sets in the level engine (R88, R94). -/
def LevelEngine.fallenBack (e : LevelEngine) : LevelEngine :=
  { e with level := fullLevel, target := fullLevel, suspended := false, reportedTerm := some .fallback, reportedTarget := some 1 }

theorem State.levelUpdate_of_listening {s : State} (h : s.le.station = .listening) :
    s.levelUpdate = s.formDemand.settled (s.le.starting s.formDemand.dc.target) s.cfg.yield := by
  simp only [State.levelUpdate, h]
  rfl

theorem State.levelUpdate_of_running {s : State} (h : s.le.station = .running) :
    s.levelUpdate =
      s.formDemand.settled (s.le.regulated s.formDemand.dc s.ol.fullEffective s.ol.holdPresent s.cfg) s.cfg.yield := by
  simp only [State.levelUpdate, h]
  rfl

theorem State.levelUpdate_of_fallback {s : State} (h : s.le.station = .fallback) :
    s.levelUpdate = s.settled s.le.fallenBack 1 := by
  simp only [State.levelUpdate, h]
  rfl

/-- What a regulation leaves of the level engine's own state. -/
theorem LevelEngine.regulated_frame (e : LevelEngine) (d : Demand) (full hold : Bool) (cfg : Record) :
    e.regulated d full hold cfg = { e with
      level := (e.regulated d full hold cfg).level, target := (e.regulated d full hold cfg).target,
      suspended := (e.regulated d full hold cfg).suspended, reportedTerm := (e.regulated d full hold cfg).reportedTerm,
      reportedTarget := (e.regulated d full hold cfg).reportedTarget } := by
  unfold LevelEngine.regulated
  dsimp only
  split
  · rfl
  · split <;> rfl

theorem LevelEngine.regulated_station (e : LevelEngine) (d : Demand) (full hold : Bool) (cfg : Record) :
    (e.regulated d full hold cfg).station = e.station := by rw [e.regulated_frame]

/-- In LISTENING and RUNNING a level update forms the demand and settles on it. -/
theorem State.levelUpdate_of_regulates {s : State} (h : s.le.station.regulates = true) :
    ∃ e, e.station = s.le.station ∧ s.levelUpdate = s.formDemand.settled e s.cfg.yield := by
  rcases (StationState.regulates_iff _).1 h with hst | hst
  · exact ⟨s.le.starting s.formDemand.dc.target, rfl, State.levelUpdate_of_listening hst⟩
  · exact ⟨_, LevelEngine.regulated_station _ _ _ _ _, State.levelUpdate_of_running hst⟩

/-! ### What the end of a level update leaves -/

section
variable (d : State) (e : LevelEngine) (yield : Nat)

theorem State.settled_frame :
    d.settled e yield = { d with le := (d.settled e yield).le, ch := (d.settled e yield).ch, lc := (d.settled e yield).lc,
                                 fr := (d.settled e yield).fr } := by
  unfold State.settled State.report
  dsimp only
  split <;> rfl

theorem State.settled_pa : (d.settled e yield).pa = d.pa := by rw [d.settled_frame]

theorem State.settled_dc : (d.settled e yield).dc = d.dc := by rw [d.settled_frame]

theorem State.settled_ch : (d.settled e yield).ch = (({ d with le := e } : State).handOver e.level).ch := by
  unfold State.settled State.report
  dsimp only
  split <;> rfl

theorem State.settled_fr : (d.settled e yield).fr = (({ d with le := e } : State).handOver e.level).fr := by
  unfold State.settled State.report
  dsimp only
  split <;> rfl

theorem State.settled_held : (d.settled e yield).ch.held = some e.level := by rw [State.settled_ch]; rfl

/-- The delivered luminance is formed, and a placement writes what it writes (R89, R95). -/
theorem State.settled_le :
    (d.settled e yield).le = { e with
      delivered := (d.settled e yield).ch.delivered * yield / 10000, placedAt := (d.settled e yield).le.placedAt,
      firstUpdate := (d.settled e yield).le.firstUpdate, lastReported := (d.settled e yield).le.lastReported,
      tag := (d.settled e yield).le.tag } := by
  unfold State.settled State.report
  dsimp only
  split <;> rfl

/-- No flag is cleared by the end of a level update. -/
theorem State.settled_sticky {g : Flag} (h : d.fr.isSet g = true) : (d.settled e yield).fr.isSet g = true := by
  rw [State.settled_fr]
  exact (({ d with le := e } : State).handOver_faultsFollow e.level).sticky g h

theorem State.settled_onlyRecomputed : (d.settled e yield).OnlyRecomputed d := by
  obtain ⟨-, honly, -, -⟩ := ({ d with le := e } : State).handOver_computes e.level
  unfold State.OnlyRecomputed
  rw [State.settled_ch]
  exact honly

theorem State.settled_raisesOnly : (d.settled e yield).RaisesOnly d channelFlags := by
  obtain ⟨-, -, -, honly⟩ := ({ d with le := e } : State).handOver_computes e.level
  unfold State.RaisesOnly
  rw [State.settled_fr]
  exact honly

theorem State.settled_channelsComputed :
    (d.settled e yield).ChannelsComputed fun k => (d.ch.get k).openTimer := by
  obtain ⟨-, -, hcomputed, -⟩ := ({ d with le := e } : State).handOver_computes e.level
  unfold State.settled State.report
  dsimp only
  split
  · exact hcomputed
  · exact hcomputed

end

theorem exec_levelUpdate_of_regulates {s : State} {due : Time} (hdue : s.le.updateTimer = some due)
    (hreg : s.le.station.regulates = true) :
    ∃ e, e.station = s.le.station ∧ exec .levelUpdate s = .next ((s.timed due).formDemand.settled e s.cfg.yield) := by
  obtain ⟨e, hst, he⟩ := State.levelUpdate_of_regulates (s := s.timed due) hreg
  exact ⟨e, hst, by rw [exec_levelUpdate hdue, he]; rfl⟩

/-! ### The sides (R45 to R49) -/

/-- The flag that says side X is lost (R48). -/
def Side.lostFlag : Side → Flag
  | .a => .portalALost
  | .b => .portalBLost

theorem State.formSides_get (s : State) (x : Side) : s.formSides.pa.get x = s.formedSide x (s.pa.get x) := by cases x <;> rfl

theorem State.formSides_lostFlag (s : State) (x : Side) (h : (s.formSides.pa.get x).lost = true) :
    s.formSides.fr.isSet x.lostFlag = true := by
  cases x with
  | a => exact FaultRecord.isSet_raiseIf_of_isSet (FaultRecord.isSet_raiseIf_self _ h _) _ _
  | b => exact FaultRecord.isSet_raiseIf_self _ h _

theorem State.formDemand_lostFlag (s : State) (x : Side) (h : (s.formDemand.pa.get x).lost = true) :
    s.formDemand.fr.isSet x.lostFlag = true :=
  FaultRecord.isSet_raiseIf_of_isSet (s.formSides_lostFlag x h) _ _

section
variable (r : SideRecord) (now : Time) (holdTime luminance : Nat) (running : Bool)

/-- A side without candidates holds its last aggregate within the hold time (R46). -/
theorem SideRecord.formed_of_held (h : r.everValid = true ∧ now - r.validAt < sec holdTime) :
    r.formed none now holdTime luminance running =
      { r with status := some .holding, luminance := r.lastAggregate, lost := false } := by
  simp [SideRecord.formed, h.1, h.2]

/-- A side without candidates and nothing held takes the default luminance (R47). -/
theorem SideRecord.formed_of_not_held (h : ¬(r.everValid = true ∧ now - r.validAt < sec holdTime)) :
    r.formed none now holdTime luminance running =
      { r with status := some .onDefault, luminance := some luminance, lost := running } :=
  if_neg (by simpa using h)

end

/-- The aggregate of at most three luminances: the one, the larger of two, the median of three (R45). -/
theorem exists_aggregateOf {kept : List Nat} (hne : kept ≠ []) (hlen : kept.length ≤ 3) :
    ∃ l, aggregateOf kept = some l ∧ (∀ u, kept = [u] → l = u) ∧ (∀ u v, kept = [u, v] → l = max u v) ∧
      ∀ u v w, kept = [u, v, w] →
        l ∈ kept ∧ 2 ≤ (kept.filter fun y => y ≤ l).length ∧ 2 ≤ (kept.filter fun y => l ≤ y).length := by
  match kept, hne, hlen with
  | [x], _, _ => exact ⟨x, rfl, by simp, by simp, by simp⟩
  | [x, y], _, _ => exact ⟨max x y, rfl, by simp, by simp, by simp⟩
  | [x, y, z], _, _ => exact ⟨median3 x y z, rfl, by simp, by simp, fun _ _ _ _ => median3_spec x y z⟩

/-- Settles O24: a served side is formed from the aggregate of its candidates at the instant of the update, and the rest of the
update leaves it and its flag. -/
theorem sideFormedAtUpdate : Obligations.SideFormedAtUpdate := by
  intro s due hdue hreg
  obtain ⟨e, -, hexec⟩ := exec_levelUpdate_of_regulates hdue hreg
  have hget (x : Side) : ((s.timed due).formDemand.settled e s.cfg.yield).pa.get x = (s.timed due).formedSide x (s.pa.get x) := by
    rw [State.settled_pa]
    exact (s.timed due).formSides_get x
  refine ⟨_, hexec, fun hb => ?_, fun x hx => ?_⟩
  · have hserves : (s.timed due).serves .b = false := by
      show s.cfg.distanceB.isSome = false
      rw [hb]
      rfl
    refine (hget .b).trans (if_neg ?_)
    simp [hserves]
  · have hserves : (s.timed due).serves x = true := by
      cases x with
      | a => rfl
      | b => exact Option.isSome_iff_ne_none.2 (hx rfl)
    have hformed : ((s.timed due).formDemand.settled e s.cfg.yield).pa.get x =
        (s.pa.get x).formed (aggregateOf ((((s.elapseTo due).candidates x).take 3).map Prod.snd)) (max s.now due) s.cfg.holdTime
          s.cfg.defaultLuminance (decide (s.le.station = .running)) := (hget x).trans (if_pos hserves)
    have hhold : sec s.cfg.holdTime = 20000000 * s.cfg.holdTime := sec_eq _
    refine ⟨fun hne => ?_, fun hnone hheld => ?_, fun hnone hheld => ?_, fun hlost => ?_⟩
    · obtain ⟨l, hl, hspec⟩ := exists_aggregateOf hne (by simp)
      exact ⟨l, by rw [hformed, hl]; rfl, hspec⟩
    · rw [hformed, hnone]
      exact SideRecord.formed_of_held _ _ _ _ _ (by rwa [hhold])
    · rw [hformed, hnone]
      exact SideRecord.formed_of_not_held _ _ _ _ _ (by rwa [hhold])
    · rw [State.settled_pa] at hlost
      have hflag := State.settled_sticky _ e s.cfg.yield ((s.timed due).formDemand_lostFlag x hlost)
      cases x with
      | a => exact hflag
      | b => exact hflag

/-! ### The demand (R71 to R77) -/

/-- The largest of several optional floors is one of them, and none lies above it (R71). -/
theorem foldl_largerFloor_spec : ∀ (ls : List (Option Nat)) (start : Option Nat),
    (∀ l, start = some l ∨ some l ∈ ls → ∃ m, ls.foldl largerFloor start = some m ∧ l ≤ m) ∧
      ∀ m, ls.foldl largerFloor start = some m → start = some m ∨ some m ∈ ls
  | [], start => ⟨fun l h => ⟨l, by simpa using h, le_rfl⟩, fun m h => .inl h⟩
  | y :: rest, start => by
      obtain ⟨hle, hmem⟩ := foldl_largerFloor_spec rest (largerFloor start y)
      cases start with
      | none =>
        refine ⟨fun l h => hle l ?_, fun m h => ?_⟩
        · simpa [largerFloor, eq_comm] using h
        · simpa [largerFloor, eq_comm] using hmem m h
      | some a =>
        cases y with
        | none =>
          refine ⟨fun l h => hle l ?_, fun m h => ?_⟩
          · simpa [largerFloor] using h
          · simpa [largerFloor] using hmem m h
        | some b =>
          refine ⟨fun l h => ?_, fun m h => ?_⟩
          · rcases h with h | h
            · obtain ⟨m, hm, hml⟩ := hle _ (.inl rfl)
              exact ⟨m, hm, by cases h; omega⟩
            · rcases List.mem_cons.1 h with h | h
              · obtain ⟨m, hm, hml⟩ := hle _ (.inl rfl)
                exact ⟨m, hm, by cases h; omega⟩
              · exact hle l (.inr h)
          · rcases hmem m h with h | h
            · rcases max_cases a b with ⟨hmax, -⟩ | ⟨hmax, -⟩
              · exact .inl (by rw [← h, largerFloor, hmax])
              · exact .inr (List.mem_cons.2 (.inl (by rw [← h, largerFloor, hmax])))
            · exact .inr (List.mem_cons_of_mem _ h)

/-- The highest FLOOR among the entries held is that of one of them, and none lies above it (R71, R111). -/
theorem OverrideList.highestFloor_spec (ol : OverrideList) :
    (∀ e ∈ ol.entries, e.kind = .floor → ∃ m, ol.highestFloor = some m ∧ e.floorLevel.getD 0 ≤ m) ∧
      ∀ m, ol.highestFloor = some m → ∃ e ∈ ol.entries, e.kind = .floor ∧ e.floorLevel.getD 0 = m := by
  obtain ⟨hle, hmem⟩ := foldl_largerFloor_spec
    (ol.entries.map fun e : OverrideEntry => if e.kind = .floor then some (e.floorLevel.getD 0) else none) none
  refine ⟨fun e he hk => hle _ (.inr (List.mem_map.2 ⟨e, he, if_pos hk⟩)), fun m hm => ?_⟩
  obtain ⟨e, he, heq⟩ := List.mem_map.1 ((hmem m hm).resolve_left (by simp))
  by_cases hk : e.kind = .floor
  · rw [if_pos hk] at heq
    exact ⟨e, he, hk, Option.some.inj heq⟩
  · rw [if_neg hk] at heq
    cases heq

/-- No term lies above the target, and the governing term is the first that equals it (R73, R74). -/
theorem targetOf_spec {terms : List (Term × Nat)} (hne : terms ≠ []) :
    (∀ x ∈ terms, x.2 ≤ targetOf terms) ∧ ∃ x ∈ terms, x.2 = targetOf terms := by
  obtain ⟨hmem, hle⟩ := foldl_max_zero_spec (terms.map Prod.snd)
  have hbound : ∀ x ∈ terms, x.2 ≤ targetOf terms := fun x hx => hle _ (List.mem_map_of_mem hx)
  refine ⟨hbound, ?_⟩
  rcases hmem with hzero | hmem
  · obtain ⟨x, hx⟩ := List.exists_mem_of_ne_nil terms hne
    exact ⟨x, hx, Nat.le_antisymm (hbound x hx) (by unfold targetOf; omega)⟩
  · exact List.mem_map.1 hmem

/-- The terms present (R71). -/
theorem State.mem_terms (s : State) (trim : Nat) (x : Term × Nat) : x ∈ s.terms trim ↔
    x = (.portalA, s.sideDemand trim s.pa.a s.dc.ratioA) ∨
      s.serves .b = true ∧ x = (.portalB, s.sideDemand trim s.pa.b s.dc.ratioB) ∨ x = (.interior, s.cfg.interior) ∨
        x = (.neighbour, s.neighbourFloor) ∨ ∃ l, s.floorTerm = some l ∧ x = (.floor, l) := by
  unfold State.terms
  cases s.serves .b <;> cases s.floorTerm <;> simp

/-- Which term governs: the first in the order of R74 that equals the target, those before it lying below. -/
theorem State.governingOf_terms (s : State) (trim target : Nat) (htarget : targetOf (s.terms trim) = target) :
    ∃ governing, governingOf (s.terms trim) = some governing ∧
      (governing = .portalA ∧ s.sideDemand trim s.pa.a s.dc.ratioA = target ∨
        s.sideDemand trim s.pa.a s.dc.ratioA < target ∧
          (governing = .portalB ∧ s.serves .b = true ∧ s.sideDemand trim s.pa.b s.dc.ratioB = target ∨
            (s.serves .b = true → s.sideDemand trim s.pa.b s.dc.ratioB < target) ∧
              (governing = .interior ∧ s.cfg.interior = target ∨
                s.cfg.interior < target ∧
                  (governing = .neighbour ∧ s.neighbourFloor = target ∨
                    s.neighbourFloor < target ∧ governing = .floor ∧ s.floorTerm = some target)))) := by
  obtain ⟨hle, x, hx, hxt⟩ := targetOf_spec (terms := s.terms trim) (by simp [State.terms])
  simp only [State.mem_terms] at hle hx
  unfold governingOf
  rw [htarget] at hle hxt ⊢
  have ha := hle _ (.inl rfl)
  have hb (h : s.serves .b = true) := hle _ (.inr (.inl ⟨h, rfl⟩))
  have hi := hle _ (.inr (.inr (.inl rfl)))
  have hn := hle _ (.inr (.inr (.inr (.inl rfl))))
  dsimp only at ha hb hi hn
  unfold State.terms
  generalize s.sideDemand trim s.pa.a s.dc.ratioA = a at *
  generalize s.sideDemand trim s.pa.b s.dc.ratioB = b at *
  by_cases hat : a = target
  · exact ⟨.portalA, by simp [hat], .inl ⟨rfl, hat⟩⟩
  by_cases hbt : s.serves .b = true ∧ b = target
  · exact ⟨.portalB, by simp [hat, hbt], .inr ⟨by omega, .inl ⟨rfl, hbt⟩⟩⟩
  have hbelow (h : s.serves .b = true) : b < target := lt_of_le_of_ne (hb h) fun heq => hbt ⟨h, heq⟩
  have hskip : ((if s.serves .b then [(Term.portalB, b)] else []).find? fun t => t.2 == target) = none := by
    split
    · next h => simp [(hbelow h).ne]
    · rfl
  by_cases hit : s.cfg.interior = target
  · exact ⟨.interior, by simp [hat, hskip, hit], .inr ⟨by omega, .inr ⟨hbelow, .inl ⟨rfl, hit⟩⟩⟩⟩
  by_cases hnt : s.neighbourFloor = target
  · exact ⟨.neighbour, by simp [hat, hskip, hit, hnt], .inr ⟨by omega, .inr ⟨hbelow, .inr ⟨by omega, .inl ⟨rfl, hnt⟩⟩⟩⟩⟩
  have hfloor : s.floorTerm = some target := by
    rcases hx with rfl | ⟨h, rfl⟩ | rfl | rfl | ⟨l, hl, rfl⟩
    · exact absurd hxt hat
    · exact absurd ⟨h, hxt⟩ hbt
    · exact absurd hxt hit
    · exact absurd hxt hnt
    · rw [hl, ← hxt]
  exact ⟨.floor, by simp [hat, hskip, hit, hnt, hfloor],
    .inr ⟨by omega, .inr ⟨hbelow, .inr ⟨by omega, .inr ⟨by omega, rfl, hfloor⟩⟩⟩⟩⟩

/-- Settles O25: the demand is formed from the sides of this update and the floors in force, and the rest of the update leaves it. -/
theorem demandAtUpdate : Obligations.DemandAtUpdate := by
  intro s due hdue hreg
  obtain ⟨e, -, hexec⟩ := exec_levelUpdate_of_regulates hdue hreg
  let f : State := (s.timed due).formSides
  let target := targetOf (f.terms s.dc.trimInForce)
  obtain ⟨governing, hgov, hcases⟩ := f.governingOf_terms s.dc.trimInForce target rfl
  have hbound : ∀ x, x ∈ f.terms s.dc.trimInForce → x.2 ≤ target := (targetOf_spec (by simp [State.terms])).1
  simp only [State.mem_terms] at hbound
  have hserves : f.serves .b = true ↔ s.cfg.distanceB ≠ none := Option.isSome_iff_ne_none
  have hrunning {l : Nat} (h : f.floorTerm = some l) : s.le.station = .running ∧ s.ol.highestFloor = some l := by
    by_cases hst : s.le.station = .running
    · exact ⟨hst, (if_pos hst).symm.trans h⟩
    · exact absurd ((if_neg hst).symm.trans h) (by simp)
  refine ⟨_, target, governing, hexec, ?_⟩
  simp only [State.settled_pa, State.settled_dc]
  refine ⟨rfl, rfl, rfl, rfl, rfl, rfl, hgov, hbound _ (.inl rfl), fun hb => hbound _ (.inr (.inl ⟨hserves.2 hb, rfl⟩)),
    hbound _ (.inr (.inr (.inl rfl))), hbound _ (.inr (.inr (.inr (.inl rfl)))), fun hst x hx hk => ?floors, ?governing, rfl, rfl,
    fun hpart => State.settled_sticky _ e _ (FaultRecord.isSet_raiseIf_self _ hpart _)⟩
  case floors =>
    obtain ⟨m, hm, hle⟩ := s.ol.highestFloor_spec.1 x hx hk
    exact hle.trans (hbound (.floor, m) (.inr (.inr (.inr (.inr ⟨m, (if_pos hst).trans hm, rfl⟩)))))
  case governing =>
    rcases hcases with h | ⟨ha, ⟨hg, hb, ht⟩ | ⟨hb, ⟨hg, ht⟩ | ⟨hi, ⟨hg, ht⟩ | ⟨hn, hg, ht⟩⟩⟩⟩
    · exact .inl h
    · exact .inr (.inl ⟨hg, hserves.1 hb, ht, ha⟩)
    · exact .inr (.inr (.inl ⟨hg, ht, ha, fun h => hb (hserves.2 h)⟩))
    · exact .inr (.inr (.inr (.inl ⟨hg, ht, ha, fun h => hb (hserves.2 h), hi⟩)))
    · obtain ⟨hst, hhigh⟩ := hrunning ht
      exact .inr (.inr (.inr (.inr ⟨hg, hst, s.ol.highestFloor_spec.2 _ hhigh, ha, fun h => hb (hserves.2 h), hi, hn⟩)))

/-! ### The update by station state (R82 to R94) -/

/-- Outside RUNNING no side is lost by being formed (R48). -/
theorem SideRecord.formed_lost (r : SideRecord) (aggregate : Option Nat) (now : Time) (holdTime luminance : Nat) :
    (r.formed aggregate now holdTime luminance false).lost = false := by
  unfold SideRecord.formed
  cases aggregate with
  | some l => rfl
  | none => dsimp only; split <;> rfl

theorem State.formDemand_lost {s : State} (hst : s.le.station ≠ .running) {x : Side} (hserves : s.serves x = true) :
    (s.formDemand.pa.get x).lost = false := by
  have hget : s.formDemand.pa.get x = s.formedSide x (s.pa.get x) := s.formSides_get x
  rw [hget, State.formedSide, if_pos hserves, decide_eq_false hst]
  exact SideRecord.formed_lost _ _ _ _ _

/-- Settles O30: in LISTENING the demand is formed and the level stays full, in FALLBACK only the level engine is set, in CONFIGURING
only the timer. -/
theorem updateOutsideRunning : Obligations.UpdateOutsideRunning := by
  intro s due hdue
  have hexec := exec_levelUpdate hdue
  refine ⟨fun hst => ?_, fun hst => ?_, fun hst => ?_⟩
  · have hrunning : (s.timed due).le.station ≠ .running := by simp [State.timed, hst]
    rw [State.levelUpdate_of_listening (s := s.timed due) hst] at hexec
    refine ⟨_, hexec, ?_⟩
    simp only [State.settled_pa, State.settled_dc, State.settled_held]
    refine ⟨State.settled_le _ _ _, rfl, ?_, ?_, ?_, State.settled_frame _ _ _⟩
    · show (decide (s.le.station = .running) && _) = false
      simp [hst]
    · exact State.formDemand_lost (x := .a) hrunning rfl
    · exact State.formDemand_lost (x := .b) hrunning
  · rw [State.levelUpdate_of_fallback (s := s.timed due) hst] at hexec
    refine ⟨_, hexec, ?_, State.settled_held _ _ _, State.settled_frame _ _ _⟩
    have hdelivered : ((s.timed due).settled (s.timed due).le.fallenBack 1).ch.delivered ≤ 10000 := by
      rw [State.settled_ch]
      exact deliveredCounts_le _ _ fullLevel
    have hone (n : Nat) (h : n ≤ 10000) : n * 1 / 10000 = if n = 10000 then 1 else 0 := by split <;> omega
    rw [← hone _ hdelivered]
    exact State.settled_le _ _ _
  · rw [hexec, State.levelUpdate, show (s.timed due).le.station = .configuring from hst]
    rfl

/-- Settles O31: in RUNNING the level engine regulates on the demand just formed and the overrides in force. -/
theorem runningUpdateSetsLevel : Obligations.RunningUpdateSetsLevel := by
  intro s due hdue hst
  have hfull := s.fullEffective_iff
  have hhold : s.ol.holdPresent = true ↔ s.HoldInForce := by simp [OverrideList.holdPresent]
  let required := requiredLevel (targetOf ((s.timed due).formSides.terms s.dc.trimInForce)) s.yieldE
  let e := (s.timed due).le.regulated (s.timed due).formDemand.dc s.ol.fullEffective s.ol.holdPresent s.cfg
  have hexec : exec .levelUpdate s = .next ((s.timed due).formDemand.settled e s.cfg.yield) :=
    (exec_levelUpdate hdue).trans (congrArg _ (State.levelUpdate_of_running (s := s.timed due) hst))
  have hle := State.settled_le (s.timed due).formDemand e s.cfg.yield
  have hstays := (s.timed due).le.regulated_frame (s.timed due).formDemand.dc s.ol.fullEffective s.ol.holdPresent s.cfg
  refine ⟨_, required, hexec, (congrArg Demand.required (State.settled_dc _ _ _)).trans rfl, fun hf => ?full, fun hf hh => ?hold,
    fun hf hh => ?slews, (State.settled_held _ _ _).trans (congrArg (fun l => some l.level) hle.symm),
    congrArg LevelEngine.delivered hle, (congrArg LevelEngine.station hle).trans ?_,
    (congrArg LevelEngine.updateTimer hle).trans (congrArg LevelEngine.updateTimer hstays :),
    (congrArg LevelEngine.listeningTimer hle).trans (congrArg LevelEngine.listeningTimer hstays :),
    (congrArg LevelEngine.restartPending hle).trans (congrArg LevelEngine.restartPending hstays :), ?frame⟩
  case full =>
    have he : e = { (s.timed due).le with target := 10000, level := 10000, suspended := false, reportedTerm := some .full,
                                          reportedTarget := some s.cfg.yield } := by
      simp only [e, hfull.2 hf]
      rfl
    rw [hle, he]
    exact ⟨rfl, rfl, rfl, rfl, rfl⟩
  case hold =>
    have he : e = { (s.timed due).le with target := required, suspended := true, reportedTerm := some .hold,
                                          reportedTarget := (s.timed due).formDemand.dc.target } := by
      simp only [e, Bool.not_eq_true _ ▸ mt hfull.1 hf, hhold.2 hh]
      rfl
    rw [hle, he, State.settled_dc]
    exact ⟨rfl, rfl, rfl, rfl, rfl⟩
  case slews =>
    have he : e = { (s.timed due).le with
        target := required, level := slew s.cfg.riseLimit s.cfg.fallLimit s.le.level required, suspended := false,
        reportedTerm := (s.timed due).formDemand.dc.term, reportedTarget := (s.timed due).formDemand.dc.target } := by
      simp only [e, Bool.not_eq_true _ ▸ mt hfull.1 hf, Bool.not_eq_true _ ▸ mt hhold.1 hh]
      rfl
    rw [hle, he, State.settled_dc]
    refine ⟨rfl, rfl, rfl, rfl, fun h => if_pos h, fun h => ?_, fun h => ?_⟩
    · exact (if_neg (by omega)).trans (if_pos h)
    · exact (if_neg (by omega)).trans (if_neg (by omega))
  case frame =>
    rw [State.settled_dc, State.settled_pa]
    exact State.settled_frame _ _ _
  exact (LevelEngine.regulated_station _ _ _ _ _).trans hst

/-! ### Flags raised, composed -/

theorem State.RaisesOnly.trans {t d s : State} {fs gs hs : List Flag} (htd : t.RaisesOnly d fs) (hds : d.RaisesOnly s gs)
    (hf : fs ⊆ hs) (hg : gs ⊆ hs) : t.RaisesOnly s hs := by
  refine ⟨htd.1.trans hds.1, fun g => ⟨fun h => (htd.2 g).1 ((hds.2 g).1 h), fun h => ?_⟩⟩
  exact ((htd.2 g).2 fun hmem => h (hf hmem)).trans ((hds.2 g).2 fun hmem => h (hg hmem))

theorem State.RaisesOnly.refl (s : State) (fs : List Flag) : s.RaisesOnly s fs := ⟨rfl, fun _ => ⟨id, fun _ => rfl⟩⟩

/-- Forming the demand raises only the flags of the sides and CAPACITY (R48, R78). -/
theorem State.formDemand_raisesOnly (s : State) : s.formDemand.RaisesOnly s [.portalALost, .portalBLost, .capacity] := by
  let a : State := s.raiseIf s.formSides.pa.a.lost .portalALost
  let b : State := a.raiseIf s.formSides.pa.b.lost .portalBLost
  have hab : b.RaisesOnly s [.portalALost, .portalBLost] :=
    (a.raiseIf_raisesOnly _ _).trans (s.raiseIf_raisesOnly _ _) (by simp) (by simp)
  exact (b.raiseIf_raisesOnly _ _).trans hab (by simp) (by simp)

/-! ### What every level update outside CONFIGURING has in common -/

/-- Outside CONFIGURING a level update may form the demand first, and settles on a level engine of which only C, T, the SUSPENDED
mark and what is reported can be new. -/
theorem State.exists_settled {s : State} (h : s.le.station ≠ .configuring) :
    ∃ dc pa fr level target suspended term reported yield, s.levelUpdate =
        ({ s with dc := dc, pa := pa, fr := fr } : State).settled
          { s.le with level := level, target := target, suspended := suspended, reportedTerm := term, reportedTarget := reported }
          yield ∧
      ({ s with dc := dc, pa := pa, fr := fr } : State).RaisesOnly s [.portalALost, .portalBLost, .capacity] := by
  cases hst : s.le.station with
  | configuring => exact absurd hst h
  | listening => exact ⟨_, _, _, _, _, _, _, _, _, State.levelUpdate_of_listening hst, s.formDemand_raisesOnly⟩
  | running =>
    have hupdate := State.levelUpdate_of_running hst
    rw [LevelEngine.regulated_frame] at hupdate
    exact ⟨_, _, _, _, _, _, _, _, _, hupdate, s.formDemand_raisesOnly⟩
  | fallback => exact ⟨_, _, _, _, _, _, _, _, _, State.levelUpdate_of_fallback hst, .refl s _⟩

/-! ### LEVEL reports (R95 to R98) -/

theorem placementLimit_eq : placementLimit = 40000000 := ms_eq 2000

/-- When a content is to be placed (R95, R96). -/
theorem State.levelDue_iff {s : State} (h : s.le.station ≠ .configuring) :
    s.levelDue = true ↔ (s.le.firstUpdate = true ∧ s.le.station ≠ .running) ∨
      20000 * s.reportPeriod ≤ min (s.now - s.le.placedAt) 40000000 ∨
      1 ≤ difference s.le.delivered s.le.lastReported ∧ s.le.lastReported ≤ 8 * difference s.le.delivered s.le.lastReported ∧
        20000 * s.reportPeriod ≤ 4 * min (s.now - s.le.placedAt) 40000000 := by
  have hfirst : (s.le.station = .listening ∨ s.le.station = .fallback) ↔ s.le.station ≠ .running := by
    cases hst : s.le.station <;> simp_all
  simp only [State.levelDue, State.firstPlacement, State.sincePlacement, ageAt, movedEnough, quarterPassed, Bool.or_eq_true,
    Bool.and_eq_true, decide_eq_true_eq, and_assoc, or_assoc, ms_eq, placementLimit_eq, hfirst]

/-- The end of a level update before its report (R89). -/
def State.formed (d : State) (e : LevelEngine) (yield : Nat) : State :=
  { ({ d with le := e } : State).handOver e.level with
    le := { e with delivered := deliveredLuminance (({ d with le := e } : State).handOver e.level).ch.delivered yield } }

theorem State.settled_eq (d : State) (e : LevelEngine) (yield : Nat) :
    d.settled e yield = if (d.formed e yield).levelDue then (d.formed e yield).placeLevel else d.formed e yield := rfl

/-- A computation of the channels leaves their health. -/
theorem State.healthyCount_handOver (s : State) (level n : Nat) : (s.handOver level).ch.healthyCount n = s.ch.healthyCount n :=
  ChannelBlock.healthyCount_computed _ _ _ _ _

/-- Settles O32: the report is decided on the state that the update has formed, and its content is read off that state. -/
theorem levelReportPlacement : Obligations.LevelReportPlacement := by
  intro s due hdue hst
  have hexec := exec_levelUpdate hdue
  obtain ⟨dc, pa, fr, level, target, suspended, term, reported, yield, hsettled, -⟩ :=
    State.exists_settled (s := s.timed due) hst
  let d : State := { s.timed due with dc := dc, pa := pa, fr := fr }
  let e : LevelEngine := { (s.timed due).le with
    level := level, target := target, suspended := suspended, reportedTerm := term, reportedTarget := reported }
  have hsettled : (s.timed due).levelUpdate = d.settled e yield := hsettled
  have hhealthy : (d.formed e yield).ch.healthyCount s.channelCount = s.ch.healthyCount s.channelCount :=
    State.healthyCount_handOver _ _ _
  have hdelivered : (d.settled e yield).le.delivered = (d.formed e yield).le.delivered := by
    rw [State.settled_eq]
    split <;> rfl
  have hdueIff := State.levelDue_iff (s := d.formed e yield) hst
  rw [hsettled] at hexec
  refine ⟨_, hexec, ?_⟩
  dsimp only
  rw [hdelivered]
  split
  · next h =>
    rw [State.settled_eq, if_pos (hdueIff.2 h)]
    refine ⟨?_, rfl, rfl, rfl, rfl⟩
    rw [← hhealthy]
    exact LineControl.fill_slotFilled _ _ _ _ _
  · next h =>
    rw [State.settled_eq, if_neg (mt hdueIff.1 h)]
    exact ⟨rfl, rfl, rfl, rfl, rfl⟩

/-! ### The entry to RUNNING (R92) -/

/-- The examination of the sides raises the flag of each side lost (R48). -/
theorem State.examineSides_spec (s : State) :
    (s.examineSides.pa.a.lost = true → s.examineSides.fr.isSet .portalALost = true) ∧
      (s.examineSides.pa.b.lost = true → s.examineSides.fr.isSet .portalBLost = true) ∧
      s.examineSides.RaisesOnly s [.portalALost, .portalBLost] := by
  let a : State := s.raiseIf s.examineSides.pa.a.lost .portalALost
  exact ⟨fun h => FaultRecord.isSet_raiseIf_of_isSet (FaultRecord.isSet_raiseIf_self _ h _) _ _,
    fun h => FaultRecord.isSet_raiseIf_self _ h _,
    (a.raiseIf_raisesOnly s.examineSides.pa.b.lost .portalBLost).trans (s.raiseIf_raisesOnly _ _) (by simp) (by simp)⟩

/-- Settles O34: on entry to RUNNING the neighbours are examined first, then the sides, neither touching what the other wrote. -/
theorem listeningExpiryEntersRunning : Obligations.ListeningExpiryEntersRunning := by
  intro s due hdue hst
  let r : State := { s.elapseTo due with le := { s.le with station := .running, listeningTimer := none } }
  obtain ⟨hlost, hflag, hneighbours⟩ := r.examineNeighbours_spec
  obtain ⟨ha, hb, hsides⟩ := r.examineNeighbours.examineSides_spec
  have hexec : exec .listeningTimerExpiry s = .next r.examineNeighbours.examineSides := by
    simp only [exec, execListeningTimerExpiry, hdue, if_pos hst]
    rfl
  refine ⟨_, hexec, rfl, rfl, hlost.trans (and_iff_right rfl), ?_, fun h => (hsides.2 _).1 (hflag h), ha, hb,
    hsides.trans hneighbours (by simp) (by simp), rfl⟩
  have hrunning : r.examineNeighbours.le.station = .running := rfl
  simp only [State.examineSides, State.sideLost, State.serves, hrunning, decide_true, Bool.and_true, Bool.true_and]
  rfl

/-! ### The commands after an update (R121 to R124) -/

/-- The command that delivers the level where it does not meet the clamp (R121). -/
theorem le_compensated {level n h : Nat} (hn : 1 ≤ n) (hh : 1 ≤ h) (hroom : level * n ≤ 10000 * h) :
    level ≤ min ((level * n + h - 1) / h) 10000 * h / n := by
  have hcover : level * n ≤ (level * n + h - 1) / h * h := by
    have hlt : level * n + h - 1 < ((level * n + h - 1) / h + 1) * h := Nat.lt_mul_of_div_lt (Nat.lt_succ_self _) hh
    rw [Nat.add_mul] at hlt
    omega
  rw [Nat.le_div_iff_mul_le hn]
  rcases min_cases ((level * n + h - 1) / h) 10000 with ⟨hmin, -⟩ | ⟨hmin, -⟩ <;> rw [hmin]
  · exact hcover
  · exact hroom

/-- The command at the clamp (R121). -/
theorem compensated_clamped {level n h : Nat} (hh : 1 ≤ h) (hover : 10000 * h < level * n) :
    min ((level * n + h - 1) / h) 10000 = 10000 := by
  refine min_eq_right ((Nat.le_div_iff_mul_le hh).2 ?_)
  omega

theorem ChannelBlock.healthyCount_congr {b c : ChannelBlock} (h : ∀ k, (b.get k).healthy = (c.get k).healthy) (n : Nat) :
    b.healthyCount n = c.healthyCount n := by
  unfold ChannelBlock.healthyCount
  simp only [h]

/-- A computation of the commands leaves every channel's state and mark. -/
theorem State.OnlyRecomputed.health {t s : State} (h : t.OnlyRecomputed s) (k : ChannelId) :
    (t.ch.get k).state = (s.ch.get k).state ∧ (t.ch.get k).openMark = (s.ch.get k).openMark := by
  rw [h.1 k]
  exact ⟨rfl, rfl⟩

theorem State.OnlyRecomputed.healthyCount {t s : State} (h : t.OnlyRecomputed s) (n : Nat) :
    t.ch.healthyCount n = s.ch.healthyCount n := by
  refine ChannelBlock.healthyCount_congr (fun k => ?_) n
  obtain ⟨hstate, hmark⟩ := h.health k
  rw [Channel.healthy, Channel.healthy, hstate, hmark]

/-- A level update outside CONFIGURING hands over the level it has set (R89, R123). -/
theorem State.levelUpdate_handsOver {s : State} (h : s.le.station ≠ .configuring) :
    s.levelUpdate.ch.held = some s.levelUpdate.le.level ∧ s.levelUpdate.OnlyRecomputed s ∧
      (s.levelUpdate.ChannelsComputed fun k => (s.ch.get k).openTimer) ∧ s.levelUpdate.channelCount = s.channelCount ∧
      s.levelUpdate.RaisesOnly s (channelFlags ++ [.portalALost, .portalBLost]) := by
  obtain ⟨dc, pa, fr, level, target, suspended, term, reported, yield, hsettled, hraised⟩ := State.exists_settled h
  rw [hsettled]
  refine ⟨(State.settled_held _ _ _).trans (by rw [State.settled_le]), State.settled_onlyRecomputed _ _ _,
    State.settled_channelsComputed _ _ _, ?_, (State.settled_raisesOnly _ _ _).trans hraised (by simp) (by simp [channelFlags])⟩
  unfold State.channelCount State.cfg
  rw [State.settled_le, State.settled_frame]

/-- Settles O41: every level update ends by handing its level over, which computes the commands from the channels as they stood. -/
theorem commandsCompensate : Obligations.CommandsCompensate := by
  intro s due hdue hst
  have hexec := exec_levelUpdate hdue
  obtain ⟨hheld, honly, hcomputed, hcount, hraised⟩ := State.levelUpdate_handsOver (s := s.timed due) hst
  have hstation : (s.timed due).levelUpdate.le.station = s.le.station := State.levelUpdate_station _
  generalize (s.timed due).levelUpdate = t at *
  have honly : t.OnlyRecomputed s := honly
  have hcount : t.channelCount = s.channelCount := hcount
  have hstate (k : ChannelId) : (t.ch.get k).state = (s.ch.get k).state := (honly.health k).1
  obtain ⟨hcommand, -, hdelivered, hpart, -, -, hflag, -⟩ := id hcomputed
  rw [hcount, honly.healthyCount, hheld, Option.getD_some] at hdelivered
  simp only [hcount, honly.healthyCount, hheld, Option.getD_some] at hcommand hpart
  have hlevel (hn : 1 ≤ s.channelCount) (hh : 1 ≤ s.ch.healthyCount s.channelCount) :
      ¬(s.channelCount = 0 ∨ s.ch.healthyCount s.channelCount = 0) := by omega
  refine ⟨s.valuesInForce, t, hexec, honly, hraised, fun k hk => ?_, fun k hk => ?_, hheld, hdelivered, fun hn hh hroom => ?_,
    fun hn hh hall hover => ?_, ?_, hflag, hcomputed⟩
  · rw [hcommand, hstate, if_neg hk]
  · rw [hcommand, hstate, if_pos hk]
  · rw [hdelivered, if_neg (hlevel hn hh)]
    exact min_eq_left (le_compensated hn hh hroom)
  · rw [hdelivered, if_neg (hlevel hn hh), compensated_clamped hh hover]
    refine min_eq_right (Nat.div_le_of_le_mul ?_)
    rw [Nat.mul_comm s.channelCount]
    exact hover.le
  · rw [hpart, hstation]
    exact and_iff_right hst

end Sys2Proof.Machine
end

section
/-! PROOF. Releases and second timers of the override list (R102, R108), and the FULLIN contact (R112 to R114). -/

namespace Sys2Proof.Machine

/-! ### Releases and second timers (R102, R108) -/

/-- In LISTENING and RUNNING an OVERRIDE of a known kind, from a source other than 255 and without a duration, is a release (R103). -/
theorem State.takeOverride_release {s : State} {r : RawFrame} {kind : OverrideKind} (hreg : s.le.station.regulates = true)
    (hsrc : r.src ≠ 255) (hkind : byteAt r.payload 0 = overrideCode kind) (hdur : fieldAt r.payload 3 = 0) :
    s.takeOverride r = s.takeRelease r.src kind := by
  have hread : (readOverride r.payload).kind = some kind := by simp [readOverride, hkind]
  have hduration : (readOverride r.payload).duration = 0 := hdur
  simp only [State.takeOverride, hreg, if_true, hsrc, if_false, hread, hduration]

/-- In FALLBACK, from source 255, or with a kind that is none of the three, an OVERRIDE is ignored (R103). -/
theorem State.takeOverride_ignored {s : State} {r : RawFrame} (h : s.le.station = .fallback ∨ r.src = 255 ∨
      (byteAt r.payload 0 ≠ 1 ∧ byteAt r.payload 0 ≠ 2 ∧ byteAt r.payload 0 ≠ 3)) : s.takeOverride r = s := by
  unfold State.takeOverride
  rcases h with h | h | ⟨h1, h2, h3⟩
  · simp [h, StationState.regulates]
  · simp [h]
  · have hread : (readOverride r.payload).kind = none := by
      simp only [readOverride, overrideOfCode, if_neg h1, if_neg h2, if_neg h3]
    simp [hread]

/-- In a list whose sources and kinds are distinct, passing what matches an entry through `g` passes that entry alone (R101). -/
theorem filterMap_matches_eq {before after : List OverrideEntry} {v : OverrideEntry}
    (h : (before ++ v :: after).Pairwise fun x y => ¬(x.source = y.source ∧ x.kind = y.kind))
    (g : OverrideEntry → Option OverrideEntry) :
    ((before ++ v :: after).filterMap fun x => if x.matches v.source v.kind then g x else some x) =
      before ++ (g v).toList ++ after := by
  obtain ⟨_, hafter, hbefore⟩ := List.pairwise_append.1 h
  have hkeep {l : List OverrideEntry} (hl : ∀ x ∈ l, ¬(x.source = v.source ∧ x.kind = v.kind)) :
      (l.filterMap fun x => if x.matches v.source v.kind then g x else some x) = l := by
    have hsome : ∀ x ∈ l, (if x.matches v.source v.kind then g x else some x) = some x := fun x hx =>
      if_neg (mt (x.matches_iff _ _).1 (hl x hx))
    rw [List.filterMap_congr hsome, List.filterMap_some]
  have hself : v.matches v.source v.kind = true := (v.matches_iff _ _).2 ⟨rfl, rfl⟩
  rw [List.filterMap_append, hkeep fun x hx => hbefore x hx v List.mem_cons_self, List.filterMap_cons, if_pos hself,
    hkeep fun x hx hm => (List.pairwise_cons.1 hafter).1 x hx ⟨hm.1.symm, hm.2.symm⟩]
  cases g v <;> simp

/-- The entry of a source and kind is found between those before and after it (R101). -/
theorem find_matches_eq {before after : List OverrideEntry} {v : OverrideEntry}
    (h : (before ++ v :: after).Pairwise fun x y => ¬(x.source = y.source ∧ x.kind = y.kind)) :
    (before ++ v :: after).find? (fun x => x.matches v.source v.kind) = some v := by
  obtain ⟨_, -, hbefore⟩ := List.pairwise_append.1 h
  refine List.find?_eq_some_iff_append.2 ⟨(v.matches_iff _ _).2 ⟨rfl, rfl⟩, before, after, rfl, fun x hx => ?_⟩
  simpa only [Bool.not_eq_true', Bool.eq_false_iff, ne_eq, OverrideEntry.matches_iff] using hbefore x hx v List.mem_cons_self

/-- Settles O38: a release and a second timer act on the one entry of their source and kind; other OVERRIDEs are ignored. -/
theorem releaseAndExpiryRemove : Obligations.ReleaseAndExpiryRemove := by
  refine ⟨fun s f kind htakes hreg hsrc hkind hdur => ?_, fun s f htakes hignored => ?_, fun s before after e hsound hsplit => ?_⟩
  · rw [htakes.exec_overrideFrame,
      State.takeOverride_release (s := s.afterFrame) (r := rawOfFrame .override f) hreg hsrc hkind hdur]
    have hfilter : (s.ol.entries.filter fun x => !x.matches f.src kind) =
        s.ol.entries.filter fun x => decide (¬(x.source = f.src ∧ x.kind = kind)) := by
      congr 1
      funext x
      rw [Bool.eq_iff_iff, decide_eq_true_iff, ← x.matches_iff, Bool.not_eq_true', Bool.not_eq_true]
    exact congrArg (fun es => Host.Outcome.next { s.afterFrame with ol := { s.ol with entries := es } }) hfilter
  · rw [htakes.exec_overrideFrame, State.takeOverride_ignored (s := s.afterFrame) (r := rawOfFrame .override f) hignored]
  · obtain ⟨-, hdistinct, -, -⟩ := hsound
    rw [hsplit] at hdistinct
    have hsecond : sec 1 = 20000000 := sec_eq 1
    simp only [exec, execOverrideSecondTimerExpiry, hsplit, find_matches_eq hdistinct, State.elapseTo_ol,
      filterMap_matches_eq hdistinct fun x => x.secondPassed (s.elapseTo e.secondDue).now]
    unfold OverrideEntry.secondPassed secondPeriod
    rw [hsecond]
    split
    · rfl
    · rfl

/-! ### The contact (R112 to R114) -/

/-- Whether a closing contact begins an effective FULL: no FULL entry is held (R113). -/
theorem OverrideList.holdsFull_eq_false_iff (ol : OverrideList) : ol.holdsFull = false ↔ ∀ e ∈ ol.entries, e.kind ≠ .full := by
  simp [OverrideList.holdsFull]

/-- What a closing contact does to the output: in RUNNING, with no FULL entry held, a FULL begins; else only the contact is noted
(R85, R113). -/
theorem State.contactActed_spec (s : State) :
    (if s.le.station = .running ∧ ∀ e ∈ s.ol.entries, e.kind ≠ .full then
      s.contactActed.le = { s.le with level := 10000, target := 10000, suspended := false } ∧ s.contactActed.ch.held = some 10000 ∧
        s.contactActed.OnlyRecomputed s ∧ (s.contactActed.ChannelsComputed fun k => (s.ch.get k).openTimer) ∧
        s.contactActed.RaisesOnly s channelFlags
     else s.contactActed.le = s.le ∧ s.contactActed.ch = s.ch ∧ s.contactActed.fr = s.fr) ∧
      s.contactActed = { s with ol := { s.ol with contactClosed := true }, le := s.contactActed.le, ch := s.contactActed.ch,
                                fr := s.contactActed.fr } := by
  by_cases hbegins : s.le.station = .running ∧ ∀ e ∈ s.ol.entries, e.kind ≠ .full
  · have hnone := s.ol.holdsFull_eq_false_iff.2 hbegins.2
    rw [if_pos hbegins, State.contactActed, if_neg (by simp [hnone]), State.beginFull_of_running (by exact hbegins.1)]
    exact ⟨⟨rfl, State.handOver_computes _ fullLevel⟩, rfl⟩
  · have hidle : s.contactActed = { s with ol := { s.ol with contactClosed := true } } := by
      unfold State.contactActed
      split
      · rfl
      · next h =>
        exact State.beginFull_of_not_running fun hst => hbegins ⟨hst, s.ol.holdsFull_eq_false_iff.1 (Bool.eq_false_iff.2 h)⟩
    rw [if_neg hbegins, hidle]
    exact ⟨⟨rfl, rfl, rfl⟩, rfl⟩

/-- Placing a FULL order fills the OVERRIDE slot (R114). -/
theorem State.placeOverride_slotFilled (s : State) {duration : Nat} {payload : List Byte}
    (h : writeOverride .full 0 duration = payload) :
    SlotFilled s.lc (s.placeOverride duration).lc s.line s.now .override
      { dest := s.cfg.group, kind := .override, tag := 0, payload := payload } := by
  rw [← h]
  exact LineControl.fill_slotFilled _ _ _ _ _

theorem writeOverride_order : writeOverride .full 0 10 = [1, 0, 0, 0, 10] := by decide

theorem writeOverride_release : writeOverride .full 0 0 = [1, 0, 0, 0, 0] := by decide

theorem propagationPeriod_eq : propagationPeriod = 80000000 := sec_eq 4

/-- Settles O40: the contact acts on the output first, and then fills the OVERRIDE slot where propagation is on. -/
theorem contactActsAndPropagates : Obligations.ContactActsAndPropagates := by
  intro s due
  refine ⟨fun hdue hpin hopen => ?closes, fun hdue hpin hclosed => ?opens, fun hdue hclosed hprop => ?repeats⟩
  case closes =>
    let u : State := { s.elapseTo due with ol := { s.ol with debounceTimer := none } }
    have hexec : exec .fullinDebounceExpiry s = .next u.contactCloses := by
      simp [exec, execFullinDebounceExpiry, hdue, hpin, hopen, u]
    obtain ⟨houtput, hframe⟩ := u.contactActed_spec
    have hprop : u.propagates = s.propagates := rfl
    refine ⟨_, hexec, ?_⟩
    rw [State.contactCloses_eq, hprop, propagationPeriod_eq]
    generalize u.contactActed = v at *
    generalize v.le = e, v.ch = b, v.fr = r at hframe
    subst hframe
    by_cases hp : s.propagates = true
    · simp only [if_pos hp]
      exact ⟨rfl, houtput, State.placeOverride_slotFilled _ writeOverride_order, rfl⟩
    · simp only [if_neg hp]
      exact ⟨rfl, houtput, rfl, rfl⟩
  case opens =>
    let u : State := { s.elapseTo due with ol := { s.ol with debounceTimer := none } }
    have hexec : exec .fullinDebounceExpiry s = .next u.contactOpens := by
      simp [exec, execFullinDebounceExpiry, hdue, hpin, hclosed, u]
    have hopens : u.contactOpens = if s.propagates then
        ({ u with ol := { u.ol with contactClosed := false, propagationTimer := none } } : State).placeOverride 0
        else { u with ol := { u.ol with contactClosed := false, propagationTimer := none } } := rfl
    refine ⟨_, hexec, ?_⟩
    rw [hopens]
    by_cases hp : s.propagates = true
    · simp only [if_pos hp]
      exact ⟨rfl, State.placeOverride_slotFilled _ writeOverride_release, rfl⟩
    · simp only [if_neg hp]
      exact ⟨rfl, rfl, rfl⟩
  case repeats =>
    have hexec : exec .propagationTimerExpiry s = .next (({ s.elapseTo due with
        ol := { s.ol with propagationTimer := some (max s.now due + propagationPeriod) } } : State).placeOverride 10) := by
      simp [exec, execPropagationTimerExpiry, hdue, hclosed, hprop]
    rw [propagationPeriod_eq] at hexec
    exact ⟨_, hexec, State.placeOverride_slotFilled _ writeOverride_order, rfl⟩

end Sys2Proof.Machine
end

section
/-! PROOF. The channel block: the gate drive and the channel timers (R120, R128, R129), trips (R125 to R131), open load (R132, R133) and
CLEAR (R134, R141). -/

namespace Sys2Proof.Machine

/-! ### One channel changed and the commands computed from it (R123) -/

section
variable (s : State) (k : ChannelId) (c : Channel)

/-- What a change of one channel and the computation after it do to the channels, the conditions and the flags. -/
theorem State.setChannel_computed :
    (s.setChannel k c).computeCommands.ch.get k =
        { c with command := ((s.setChannel k c).computeCommands.ch.get k).command,
                 openTimer := ((s.setChannel k c).computeCommands.ch.get k).openTimer } ∧
      (∀ j, j ≠ k → (s.setChannel k c).computeCommands.ch.get j =
        { s.ch.get j with command := ((s.setChannel k c).computeCommands.ch.get j).command,
                          openTimer := ((s.setChannel k c).computeCommands.ch.get j).openTimer }) ∧
      ((s.setChannel k c).computeCommands.ChannelsComputed fun j => if j = k then c.openTimer else (s.ch.get j).openTimer) ∧
      (s.setChannel k c).computeCommands.RaisesOnly s channelFlags ∧
      (s.setChannel k c).computeCommands.ch.held = s.ch.held ∧
      (s.setChannel k c).computeCommands.ch.pwmTimer = s.ch.pwmTimer := by
  let u := s.setChannel k c
  have honly := u.computeCommands_onlyRecomputed.1
  have hself : u.ch.get k = c := ChannelBlock.get_set_self _ _ _
  have hcomputed := u.computeCommands_channelsComputed
  have htimer : (fun j => (u.ch.get j).openTimer) = fun j => if j = k then c.openTimer else (s.ch.get j).openTimer := by
    funext j
    rw [show u.ch.get j = if j = k then c else s.ch.get j from ChannelBlock.get_set _ _ _ _]
    split <;> rfl
  rw [htimer] at hcomputed
  refine ⟨?_, fun j hj => ?_, hcomputed, u.computeCommands_raisesOnly, ChannelBlock.held_set _ _ _, ChannelBlock.pwmTimer_set _ _ _⟩
  · exact (honly k).trans (by rw [hself])
  · rw [← show u.ch.get j = s.ch.get j from ChannelBlock.get_set_ne _ _ hj]
    exact honly j

/-- A channel that does not drive, without command and open timer, is left as it is by a computation (R121, R132). -/
theorem State.setChannel_computed_of_not_driving (hstate : c.state ≠ .driving) (hcommand : c.command = 0)
    (htimer : c.openTimer = none) : (s.setChannel k c).computeCommands.ch.get k = c := by
  simp only [State.computeCommands_ch, ChannelBlock.get_computed, State.setChannel_ch, ChannelBlock.get_set_self]
  obtain ⟨state, command, _, _, timer, _, _, _, _, _⟩ := c
  cases hcommand
  cases htimer
  cases state with
  | driving => exact absurd rfl hstate
  | off => simp [Channel.recomputed, Channel.commandFor, Channel.settledOpenTimer, openLoadCommand]
  | retryWait => simp [Channel.recomputed, Channel.commandFor, Channel.settledOpenTimer, openLoadCommand]
  | latched => simp [Channel.recomputed, Channel.commandFor, Channel.settledOpenTimer, openLoadCommand]

end

/-- The open timer that a channel had before a computation matters only where the timer runs on: in a DRIVING channel without the OPEN
mark (R132). -/
theorem State.ChannelsComputed.congr {t : State} {timer timer' : ChannelId → Option Time} (h : t.ChannelsComputed timer)
    (hsame : ∀ k, (t.ch.get k).state = .driving → (t.ch.get k).openMark = false → timer' k = timer k) :
    t.ChannelsComputed timer' := by
  obtain ⟨hcommand, htimer, hrest⟩ := h
  refine ⟨hcommand, fun k => (htimer k).trans ?_, hrest⟩
  split
  · next hruns =>
    obtain ⟨-, hstate, hmark, -⟩ := hruns
    rw [hsame k hstate hmark]
  · rfl

/-- An open timer runs only in a channel without the OPEN mark (R132). -/
theorem State.ChannelsComputed.openTimer_of_mark {t : State} {timer : ChannelId → Option Time} (h : t.ChannelsComputed timer)
    {k : ChannelId} (hmark : (t.ch.get k).openMark = true) : (t.ch.get k).openTimer = none := by
  obtain ⟨-, htimer, -⟩ := h
  rw [htimer k, if_neg]
  simp [hmark]

/-- The conditions of the channel block after a computation, with their flags (R131, R133). -/
theorem State.ChannelsComputed.conditions {t : State} {timer : ChannelId → Option Time} (h : t.ChannelsComputed timer) :
    (t.ch.latchedCondition = true ↔ ∃ k, (t.ch.get k).state = .latched) ∧
      (t.ch.openCondition = true ↔ ∃ k, (t.ch.get k).openMark = true) ∧
      (t.ch.latchedCondition = true → t.fr.isSet .overcurrentLatched = true) ∧
      (t.ch.openCondition = true → t.fr.isSet .openLoad = true) := by
  obtain ⟨-, -, -, -, hlatched, hopen, -, hlatchedFlag, hopenFlag⟩ := h
  exact ⟨hlatched, hopen, hlatchedFlag, hopenFlag⟩

/-! ### The gate drive and the timers of the channels (R120, R128, R129) -/

theorem Channel.pulseAt_iff (c : Channel) (elapsed : Time) :
    c.pulseAt elapsed = true ↔ 1 ≤ c.applied ∧ c.cut = false ∧ (c.applied = 10000 ∨ elapsed < c.applied) := by
  simp only [Channel.pulseAt, Bool.and_eq_true, Bool.or_eq_true, decide_eq_true_eq, Bool.not_eq_true', and_assoc]
  exact Iff.rfl

theorem ChannelBlock.periodBegan_eq {b : ChannelBlock} {began : Time} (h : b.pwmTimer = some (began + 10000)) :
    b.periodBegan = began := by
  simp only [ChannelBlock.periodBegan, h, Option.getD_some]
  exact Nat.add_sub_cancel began 10000

/-- The gate drive at an instant of the period (R120). -/
theorem State.gateDriveAt_iff {s : State} {began : Time} (h : s.ch.pwmTimer = some (began + 10000)) (k : ChannelId) (t : Time) :
    s.gateDriveAt k t = true ↔ s.powered = true ∧ 1 ≤ (s.ch.get k).applied ∧ (s.ch.get k).cut = false ∧
      ((s.ch.get k).applied = 10000 ∨ t < began + (s.ch.get k).applied) := by
  have helapsed (h1 : 1 ≤ (s.ch.get k).applied) : t - began < (s.ch.get k).applied ↔ t < began + (s.ch.get k).applied := by
    generalize (s.ch.get k).applied = a at *
    simp only [Time] at *
    omega
  rw [State.gateDriveAt, Bool.and_eq_true, Channel.pulseAt_iff, ChannelBlock.periodBegan_eq h]
  constructor
  · rintro ⟨hp, h1, hc, hrest⟩
    exact ⟨hp, h1, hc, hrest.imp_right (helapsed h1).1⟩
  · rintro ⟨hp, h1, hc, hrest⟩
    exact ⟨hp, h1, hc, hrest.imp_right (helapsed h1).2⟩

/-- Settles O42: the gate drive by the definition of the pulse; each timer acts on its channel, and a return to DRIVING computes the
commands. -/
theorem channelTimersRun : Obligations.ChannelTimersRun := by
  refine ⟨fun s k began hpowered hpwm => ?drive, fun s due hpwm => ?period, fun s k due hdue hwait => ?retry,
    fun s k taken rest hhistory => ?trip⟩
  case drive => exact (State.gateDriveAt_iff hpwm k s.now).trans (and_iff_right hpowered)
  case period =>
    refine ⟨{ s.elapseTo due with ch := { s.ch.map (fun _ c => c.periodStart (max s.now due)) with
        pwmTimer := some (max s.now due + 10000) } }, ?_, fun k => ?_, rfl, rfl⟩
    · simp only [exec, execPwmPeriodStart, hpwm]
      rfl
    · cases k <;> rfl
  case retry =>
    have hexec : exec (.retryTimerExpiry k) s = .next ((s.elapseTo due).setChannel k (s.ch.get k).returned).computeCommands := by
      simp only [exec, execRetryTimerExpiry, hdue, if_pos hwait]
    obtain ⟨hself, hothers, hcomputed, hraised, hheld, hpwm⟩ := (s.elapseTo due).setChannel_computed k (s.ch.get k).returned
    exact ⟨_, hexec, hself, hothers, hcomputed, hraised, hheld, hpwm, rfl⟩
  case trip =>
    have hmemory : tripMemory = 1200000000 := sec_eq 60
    have hexec : exec (.tripTimeExpiry k) s =
        .next ((s.elapseTo (taken + 1200000000)).setChannel k { s.ch.get k with history := rest }) := by
      simp only [exec, execTripTimeExpiry, hhistory, hmemory]
    have hself : (s.ch.set k { s.ch.get k with history := rest }).get k = { s.ch.get k with history := rest } :=
      ChannelBlock.get_set_self _ _ _
    refine ⟨_, hexec, hself, fun j hj => ChannelBlock.get_set_ne _ _ hj, ?_⟩
    rw [show ((s.elapseTo (taken + 1200000000)).setChannel k { s.ch.get k with history := rest }).ch.get k = _ from hself]
    rfl

/-! ### Trips (R125 to R131) -/

/-- The moment at which the filter width has passed in the present pulse, if it has not passed before (log 15). -/
def State.tripMoment (s : State) (k : ChannelId) : Time := max s.now ((s.ch.get k).pulseStart + s.filterCounts)

/-- A trip can be taken at that moment: in the pulse of a DRIVING channel, with the gate drive high to the end of the filter width
(R125). -/
theorem State.tripPossible_iff {s : State} {began : Time} (h : s.ch.pwmTimer = some (began + 10000)) (k : ChannelId) :
    (s.elapseTo ((s.ch.get k).pulseStart + s.filterCounts)).tripPossible k = true ↔
      s.powered = true ∧ (s.ch.get k).state = .driving ∧ 1 ≤ (s.ch.get k).applied ∧ (s.ch.get k).cut = false ∧
        ((s.ch.get k).applied = 10000 ∨ s.tripMoment k < began + (s.ch.get k).applied ∨
          1 ≤ s.filterCounts ∧ s.tripMoment k = began + (s.ch.get k).applied) := by
  let u := s.elapseTo ((s.ch.get k).pulseStart + s.filterCounts)
  have hpassed : (s.ch.get k).pulseStart + s.filterCounts ≤ s.tripMoment k := Nat.le_max_right _ _
  have hend : s.tripMoment k - min s.filterCounts 1 < began + (s.ch.get k).applied ↔ s.tripMoment k < began + (s.ch.get k).applied ∨
      1 ≤ s.filterCounts ∧ s.tripMoment k = began + (s.ch.get k).applied := by
    generalize s.tripMoment k = moment at *
    generalize (s.ch.get k).applied = a at *
    generalize s.filterCounts = w at *
    simp only [Time] at *
    omega
  have hpossible : u.tripPossible k = ((s.ch.get k).state == .driving &&
      decide ((s.ch.get k).pulseStart + s.filterCounts ≤ s.tripMoment k) &&
      u.gateDriveAt k (s.tripMoment k - min s.filterCounts 1)) := rfl
  have hgate := State.gateDriveAt_iff (s := u) h k (s.tripMoment k - min s.filterCounts 1)
  rw [hpossible, Bool.and_eq_true, Bool.and_eq_true, hgate, beq_iff_eq, decide_eq_true_iff]
  constructor
  · rintro ⟨⟨hst, -⟩, hp, h1, hc, hrest⟩
    exact ⟨hp, hst, h1, hc, hrest.imp_right hend.1⟩
  · rintro ⟨hp, hst, h1, hc, hrest⟩
    exact ⟨⟨hst, hpassed⟩, hp, h1, hc, hrest.imp_right hend.2⟩

/-- What a trip makes of its channel where it leaves DRIVING, by the protection mode (R126, R127, R130). -/
def State.tripped (s : State) (k : ChannelId) : Channel :=
  if s.protection = .latch then (s.ch.get k).tripOut .latched else (s.ch.get k).retryTrip s.now (sec s.retrySeconds)

/-- A trip in PERIOD mode below the 64th in a row ends the pulse alone; every other takes the channel out of DRIVING (R125). -/
theorem State.trip_eq (s : State) (k : ChannelId) :
    s.trip k = if s.protection = .period ∧ (s.ch.get k).tripped + 1 < 64 then s.setChannel k (s.ch.get k).periodTrip
      else (s.setChannel k (s.tripped k)).computeCommands := by
  unfold State.trip State.tripped trippedLimit
  cases hp : s.protection with
  | period => simp
  | retry => simp
  | latch => simp

/-- The history decides between RETRY_WAIT and LATCHED (R127). -/
theorem Channel.retryTrip_eq (c : Channel) (now retryTime : Time) :
    c.retryTrip now retryTime = if c.history.length < 3 then
      { c.tripOut .retryWait with history := c.history ++ [now], retryTimer := some (now + retryTime) } else c.tripOut .latched := rfl

/-- A channel that a trip takes out of DRIVING has its pulse cut and neither command, OPEN mark nor open timer (R127, R130). -/
theorem State.tripped_out (s : State) (k : ChannelId) :
    (s.tripped k).state ≠ .driving ∧ (s.tripped k).command = 0 ∧ (s.tripped k).openTimer = none ∧ (s.tripped k).cut = true := by
  unfold State.tripped
  split
  · exact ⟨nofun, rfl, rfl, rfl⟩
  · rw [Channel.retryTrip_eq]
    split
    · exact ⟨nofun, rfl, rfl, rfl⟩
    · exact ⟨nofun, rfl, rfl, rfl⟩

/-- A cut pulse has its gate drive low (R126). -/
theorem State.gateDrive_of_cut {s : State} {k : ChannelId} (h : (s.ch.get k).cut = true) : s.gateDrive k = false := by
  simp [State.gateDrive, State.gateDriveAt, Channel.pulseAt, h]

/-- Settles O43: the trip is taken at its moment, where there is one, and by the mode in force either ends the pulse or takes the channel
out of DRIVING. -/
theorem tripsByMode : Obligations.TripsByMode := by
  intro s k began hpwm
  have hpossible := State.tripPossible_iff hpwm k
  let u := s.elapseTo ((s.ch.get k).pulseStart + s.filterCounts)
  refine ⟨s.valuesInForce, fun hignored => ?ignored, fun hp hst h1 hc hmoment => ?taken⟩
  case ignored =>
    have hnot : ¬u.tripPossible k = true := by
      rw [hpossible]
      rintro ⟨-, hst, h1, hc, hrest⟩
      rcases hignored with h | h | h | ⟨hpart, h⟩
      · exact h hst
      · omega
      · simp [hc] at h
      · have hnone : ¬(s.tripMoment k < began + (s.ch.get k).applied ∨
            1 ≤ s.filterCounts ∧ s.tripMoment k = began + (s.ch.get k).applied) := by
          change began + (s.ch.get k).applied < s.tripMoment k ∨ s.filterCounts = 0 ∧ began + (s.ch.get k).applied = s.tripMoment k at h
          generalize s.tripMoment k = moment at *
          generalize (s.ch.get k).applied = a at *
          generalize s.filterCounts = w at *
          simp only [Time] at *
          omega
        exact hnone (hrest.resolve_left hpart)
    exact if_neg hnot
  case taken =>
    have hexec : exec (.overcurrentTrip k) s = .next (u.trip k) := if_pos (hpossible.2 ⟨hp, hst, h1, hc, hmoment⟩)
    refine ⟨_, hexec, ?_⟩
    rw [State.trip_eq]
    by_cases hstays : s.protection = .period ∧ (s.ch.get k).tripped + 1 < 64
    · rw [if_pos (show u.protection = .period ∧ (u.ch.get k).tripped + 1 < 64 from hstays)]
      have hself : (s.ch.set k (s.ch.get k).periodTrip).get k = (s.ch.get k).periodTrip := ChannelBlock.get_set_self _ _ _
      have hcut : ((u.setChannel k (s.ch.get k).periodTrip).ch.get k).cut = true := congrArg Channel.cut hself
      refine ⟨fun _ => rfl, fun h => absurd h ?_, fun h => absurd h ?_, fun h => absurd hstays h, .refl _ _,
        State.gateDrive_of_cut hcut, ChannelBlock.held_set _ _ _, ChannelBlock.pwmTimer_set _ _ _,
        fun j hj => ?_, rfl⟩
      · rw [hstays.1]
        rintro (h | ⟨-, h⟩)
        · cases h
        · omega
      · rw [hstays.1]
        rintro (⟨h | ⟨-, h⟩, -⟩ | h)
        · cases h
        · omega
        · cases h
      · have hother : (u.setChannel k (u.ch.get k).periodTrip).ch.get j = s.ch.get j := ChannelBlock.get_set_ne _ _ hj
        rw [hother]
    · rw [if_neg (show ¬(u.protection = .period ∧ (u.ch.get k).tripped + 1 < 64) from hstays)]
      obtain ⟨hdriving, hcommand, htimer, hcut⟩ := u.tripped_out k
      obtain ⟨-, hothers, hcomputed, hraised, hheld, htimerKept⟩ := u.setChannel_computed k (u.tripped k)
      have hself := u.setChannel_computed_of_not_driving k (u.tripped k) hdriving hcommand htimer
      generalize ht : (u.setChannel k (u.tripped k)).computeCommands = t at *
      have hframe : t = { u with ch := t.ch, fr := t.fr } := by rw [← ht]; rfl
      have hretry (h : s.protection = .retry ∨ s.protection = .period ∧ 64 ≤ (s.ch.get k).tripped + 1) :
          u.tripped k = (s.ch.get k).retryTrip u.now (sec s.retrySeconds) :=
        if_neg fun hlatch : s.protection = .latch => by simp [hlatch] at h
      refine ⟨fun h => absurd h hstays, fun h hroom => ?_, fun h => ?_, fun _ => hcomputed.congr fun j hj _ => ?_, hraised,
        State.gateDrive_of_cut (by rw [hself]; exact hcut), hheld, htimerKept, hothers, hframe⟩
      · rw [hself, hretry h, Channel.retryTrip_eq, if_pos hroom, sec_eq]
        rfl
      · have hlatched : u.tripped k = (s.ch.get k).tripOut .latched := by
          rcases h with ⟨h, hfull⟩ | h
          · rw [hretry h, Channel.retryTrip_eq, if_neg (by omega)]
          · exact if_pos h
        obtain ⟨hcondition, -, hflag, -⟩ := hcomputed.conditions
        have hpresent : t.ch.latchedCondition = true := hcondition.2 ⟨k, by rw [hself, hlatched]; rfl⟩
        exact ⟨by rw [hself, hlatched]; rfl, hpresent, hflag hpresent⟩
      · have hne : j ≠ k := by
          rintro rfl
          exact hdriving (by rwa [hself] at hj)
        exact (if_neg hne).symm

/-! ### Open load (R132, R133) -/

theorem openTime_eq : openTime = 40000000 := sec_eq 2

theorem State.inPulse_iff (s : State) (k : ChannelId) :
    s.inPulse k = true ↔ (s.ch.get k).state = .driving ∧ s.gateDrive k = true := by
  simp [State.inPulse]

/-- Settles O44: the mark is set by the timer and ended by the current, each with a computation; a running timer only restarts. -/
theorem openLoadMarksAndEnds : Obligations.OpenLoadMarksAndEnds := by
  intro s k
  refine ⟨fun due hdue => ?expiry, fun hst hgate => ⟨fun hmark => ?ended, fun due hmark htimer => ?restarted, fun hmark htimer => ?quiet⟩,
    fun h => ?ignored⟩
  case expiry =>
    let c : Channel := { s.ch.get k with openMark := true, openTimer := none }
    have hexec : exec (.openTimerExpiry k) s = .next ((s.elapseTo due).setChannel k c).computeCommands := by
      simp only [exec, execOpenTimerExpiry, hdue]
      rfl
    obtain ⟨hself, hothers, hcomputed, hraised, hheld, hpwm⟩ := (s.elapseTo due).setChannel_computed k c
    refine ⟨_, hexec, ?_⟩
    have hmark : (((s.elapseTo due).setChannel k c).computeCommands.ch.get k).openMark = true := by rw [hself]
    obtain ⟨-, hcondition, -, hflag⟩ := hcomputed.conditions
    have hpresent := hcondition.2 ⟨k, hmark⟩
    refine ⟨?_, hpresent, hflag hpresent, hothers, hcomputed.congr fun j _ hclear => ?_, hraised, hheld, hpwm, rfl⟩
    · rw [hcomputed.openTimer_of_mark hmark] at hself
      exact hself
    · have hne : j ≠ k := by
        rintro rfl
        rw [hmark] at hclear
        cases hclear
      exact (if_neg hne).symm
  case ended =>
    let c : Channel := { s.ch.get k with openMark := false, openTimer := none }
    have hexec : exec (.loadCurrentPulse k) s = .next (s.setChannel k c).computeCommands := by
      simp only [exec, execLoadCurrentPulse, if_pos ((s.inPulse_iff k).2 ⟨hst, hgate⟩), State.loadCurrent, if_pos hmark]
      rfl
    obtain ⟨hself, hothers, hcomputed, hraised, hheld, hpwm⟩ := s.setChannel_computed k c
    refine ⟨_, hexec, hself, hcomputed.conditions.2.1.trans ⟨?_, ?_⟩, hothers, hcomputed, hraised, hheld, hpwm, rfl⟩
    · rintro ⟨j, hj⟩
      have hne : j ≠ k := by
        rintro rfl
        rw [hself] at hj
        cases hj
      exact ⟨j, hne, by rwa [hothers j hne] at hj⟩
    · rintro ⟨j, hne, hj⟩
      exact ⟨j, by rwa [hothers j hne]⟩
  case restarted =>
    simp only [exec, execLoadCurrentPulse, if_pos ((s.inPulse_iff k).2 ⟨hst, hgate⟩), State.loadCurrent, hmark, htimer,
      Option.isSome_some, if_true, openTime_eq]
    rfl
  case quiet =>
    simp [exec, execLoadCurrentPulse, (s.inPulse_iff k).2 ⟨hst, hgate⟩, State.loadCurrent, hmark, htimer]
  case ignored =>
    refine if_neg fun hpulse => ?_
    obtain ⟨hst, hgate⟩ := (s.inPulse_iff k).1 hpulse
    rcases h with h | h
    · exact h hst
    · rw [hgate] at h
      cases h

/-! ### CLEAR (R134, R141) -/

/-- A flag set after a computation was set before it, or its condition is present (R124, R131, R133). -/
theorem State.computeCommands_isSet {s : State} {g : Flag} (h : s.computeCommands.fr.isSet g = true) :
    s.fr.isSet g = true ∨ s.computeCommands.condition g = true := by
  simp only [State.computeCommands_fr, FaultRecord.raiseChannels, FaultRecord.isSet_raiseIf, Bool.or_eq_true, Bool.and_eq_true,
    decide_eq_true_eq] at h
  rcases h with ((h | ⟨hcond, rfl⟩) | ⟨hcond, rfl⟩) | ⟨hcond, rfl⟩
  · exact .inl h
  · exact .inr (by simp [State.condition, hcond])
  · exact .inr hcond
  · exact .inr hcond

theorem ChannelBlock.map_eq_self {b : ChannelBlock} {g : ChannelId → Channel → Channel} (h : ∀ k, g k (b.get k) = b.get k) :
    b.map g = b := by
  have h0 := h .ch0
  have h1 := h .ch1
  have h2 := h .ch2
  have h3 := h .ch3
  simp only [ChannelBlock.get] at h0 h1 h2 h3
  rw [ChannelBlock.map, h0, h1, h2, h3]

/-- The channels that a CLEAR returns: named, and in RETRY_WAIT or LATCHED (R134). -/
def State.returns (s : State) (f : ClearFields) (k : ChannelId) : Bool := f.namesChannel k && (s.ch.get k).clearable

/-- The channels as a CLEAR leaves them: those it returns start afresh with an empty history (R134). -/
def State.channelsCleared (s : State) (f : ClearFields) : ChannelBlock :=
  s.ch.map fun k c => if s.returns f k then { c.returned with history := [] } else c

/-- A CLEAR that returns a channel computes the commands once; one that returns none changes nothing of the channels (R134). -/
theorem State.clearChannels_cases (s : State) (f : ClearFields) :
    ((∃ k, s.returns f k = true) ∧ s.clearChannels f = ({ s with ch := s.channelsCleared f } : State).computeCommands) ∨
      ((∀ k, s.returns f k = false) ∧ s.clearChannels f = s) := by
  have hany : (allChannels.any fun k => s.returns f k) = true ↔ ∃ k, s.returns f k = true := by
    rw [List.any_eq_true]
    exact ⟨fun ⟨k, _, hk⟩ => ⟨k, hk⟩, fun ⟨k, hk⟩ => ⟨k, mem_allChannels k, hk⟩⟩
  have hclear : s.clearChannels f = if (allChannels.any fun k => s.returns f k) = true then
      ({ s with ch := s.channelsCleared f } : State).computeCommands else { s with ch := s.channelsCleared f } := rfl
  by_cases hreturns : ∃ k, s.returns f k = true
  · exact .inl ⟨hreturns, hclear.trans (if_pos (hany.2 hreturns))⟩
  · have hnone (k : ChannelId) : s.returns f k = false := Bool.eq_false_iff.2 fun hk => hreturns ⟨k, hk⟩
    have hsame : s.channelsCleared f = s.ch := ChannelBlock.map_eq_self fun k => if_neg (by simp [hnone k])
    exact .inr ⟨hnone, (hclear.trans (if_neg (mt hany.1 hreturns))).trans (by rw [hsame])⟩

theorem State.get_channelsCleared (s : State) (f : ClearFields) (k : ChannelId) :
    (s.channelsCleared f).get k =
      if s.returns f k then { s.ch.get k with state := .driving, openMark := false, openTimer := none, tripped := 0,
                                              retryTimer := none, history := [] } else s.ch.get k :=
  ChannelBlock.get_map _ _ _

/-- What a CLEAR does to the channels and to the flags before it clears any (R134). -/
theorem State.clearChannels_spec (s : State) (f : ClearFields) :
    (∀ k, s.returns f k = true → (s.clearChannels f).ch.get k =
        { s.ch.get k with state := .driving, openMark := false, tripped := 0, retryTimer := none, history := [],
                          command := ((s.clearChannels f).ch.get k).command,
                          openTimer := ((s.clearChannels f).ch.get k).openTimer }) ∧
      (∀ k, s.returns f k = false → (s.clearChannels f).ch.get k =
        { s.ch.get k with command := ((s.clearChannels f).ch.get k).command,
                          openTimer := ((s.clearChannels f).ch.get k).openTimer }) ∧
      ((∃ k, s.returns f k = true) →
        (s.clearChannels f).ChannelsComputed fun k => if s.returns f k then none else (s.ch.get k).openTimer) ∧
      ((∀ k, s.returns f k = false) → (s.clearChannels f).ch = s.ch) ∧
      (∀ g, (s.clearChannels f).fr.isSet g = true → s.fr.isSet g = true ∨ (s.clearChannels f).condition g = true) ∧
      (s.clearChannels f).fr.mask = s.fr.mask ∧ (s.clearChannels f).ch.held = s.ch.held ∧
      (s.clearChannels f).ch.pwmTimer = s.ch.pwmTimer ∧
      s.clearChannels f = { s with ch := (s.clearChannels f).ch, fr := (s.clearChannels f).fr } := by
  rcases s.clearChannels_cases f with ⟨hreturns, heq⟩ | ⟨hnone, heq⟩ <;> rw [heq]
  · let u : State := { s with ch := s.channelsCleared f }
    have honly := u.computeCommands_onlyRecomputed.1
    have hget := s.get_channelsCleared f
    have htimer : (fun k => (u.ch.get k).openTimer) = fun k => if s.returns f k then none else (s.ch.get k).openTimer := by
      funext k
      rw [show u.ch.get k = _ from hget k]
      split <;> rfl
    refine ⟨fun k hk => ?_, fun k hk => ?_, fun _ => htimer ▸ u.computeCommands_channelsComputed, fun hnone => ?_,
      fun g => State.computeCommands_isSet, u.computeCommands_raisesOnly.1, rfl, rfl, rfl⟩
    · refine (honly k).trans ?_
      rw [show u.ch.get k = _ from (hget k).trans (if_pos hk)]
    · refine (honly k).trans ?_
      rw [show u.ch.get k = _ from (hget k).trans (if_neg (by simp [hk]))]
    · obtain ⟨k, hk⟩ := hreturns
      rw [hnone k] at hk
      cases hk
  · refine ⟨fun k hk => ?_, fun k _ => rfl, fun ⟨k, hk⟩ => ?_, fun _ => rfl, fun g hg => .inl hg, rfl, rfl, rfl, rfl⟩
    · rw [hnone k] at hk
      cases hk
    · rw [hnone k] at hk
      cases hk

/-- Clearing flags whose condition is absent leaves what a computation of the channel block gives: its conditions keep theirs. -/
theorem State.ChannelsComputed.clearFlags {v : State} {timer : ChannelId → Option Time} (h : v.ChannelsComputed timer)
    (named : BitVec 13) : ({ v with fr := v.fr.clearFlags named v.conditions } : State).ChannelsComputed timer := by
  have hkeeps {g : Flag} (hset : v.fr.isSet g = true) (hcond : v.condition g = true) :
      (v.fr.clearFlags named v.conditions).isSet g = true := by rw [v.clearFlags_isSet, hset, hcond]; simp
  obtain ⟨hcommand, htimer, hdelivered, hpart, hlatched, hopen, hpartFlag, hlatchedFlag, hopenFlag⟩ := h
  exact ⟨hcommand, htimer, hdelivered, hpart, hlatched, hopen,
    fun hp => hkeeps (hpartFlag hp) (Bool.or_eq_true_iff.2 (.inr hp)),
    fun hl => hkeeps (hlatchedFlag hl) hl, fun ho => hkeeps (hopenFlag ho) ho⟩

/-- A CLEAR that the station takes is handed over after the line controller has noted the frame. -/
theorem State.Takes.exec_clearFrame {s : State} {f : Frame} (h : s.Takes .clear 3 f) :
    exec (.clearFrame f) s = .next (s.afterFrame.takeClear (rawOfFrame .clear f)) :=
  congrArg Host.Outcome.next (h.frameStep_eq rfl)

/-- Settles O45: the channels first, then every flag that is set either has its condition present or was set and is not named. -/
theorem clearActsOnChannelsThenFlags : Obligations.ClearActsOnChannelsThenFlags := by
  intro s f htakes hflagged
  let u := s.afterFrame
  let fields := readClear f.payload
  let v := u.clearChannels fields
  obtain ⟨hreturned, hothers, hcomputed, hsame, hset, hmask, hheld, hpwm, hframe⟩ := u.clearChannels_spec fields
  have hfollow : u.FaultsFollow v := u.clearChannels_faultsFollow fields
  have hnames (k : ChannelId) : u.returns fields k = ((byteAt f.payload 2).getLsbD (channelNumber k) &&
      (decide ((s.ch.get k).state = .retryWait) || decide ((s.ch.get k).state = .latched))) := by
    show (_ && ((s.ch.get k).state == .retryWait || (s.ch.get k).state == .latched)) = _
    cases (s.ch.get k).state <;> rfl
  refine ⟨_, htakes.exec_clearFrame, ?_⟩
  dsimp only
  simp only [← hnames]
  refine ⟨hreturned, hothers, fun h => (hcomputed h).clearFlags _, hsame, fun g => ?flags, hmask, hheld, hpwm, ?frame⟩
  case flags =>
    let t : State := { v with fr := v.fr.clearFlags fields.flags v.conditions }
    have hcleared : t.fr.isSet g = (v.fr.isSet g && !(fields.flags.getLsbD g.position && !v.condition g)) :=
      v.clearFlags_isSet fields.flags g
    have hnamed : fields.flags.getLsbD g.position = (BitVec.ofNat 16 (fieldAt f.payload 0)).getLsbD g.position := by
      have hposition := g.position_lt
      rw [show fields.flags = BitVec.ofNat 13 (fieldAt f.payload 0) from rfl, BitVec.getLsbD_ofNat, BitVec.getLsbD_ofNat,
        decide_eq_true hposition, decide_eq_true (show g.position < 16 by omega)]
    have hcond : t.condition g = v.condition g := State.condition_congr rfl rfl rfl rfl rfl rfl rfl rfl g
    change t.fr.isSet g = true ↔ t.condition g = true ∨ _
    rw [hcleared, hcond, ← hnamed, Bool.and_eq_true]
    constructor
    · rintro ⟨hv, hkept⟩
      by_cases hpresent : v.condition g = true
      · exact .inl hpresent
      · exact .inr ⟨(hset g hv).resolve_right hpresent, by simpa [hpresent] using hkept⟩
    · rintro (hpresent | ⟨hs, hunnamed⟩)
      · refine ⟨(hfollow.flagged g hpresent).elim (fun h => hfollow.sticky g (hflagged g ?_)) id, by simp [hpresent]⟩
        exact (State.condition_congr rfl rfl rfl rfl rfl rfl rfl rfl g).symm.trans h
      · exact ⟨hfollow.sticky g hs, by simp [hunnamed]⟩
  case frame =>
    have hframe : v = { s with lc := s.lineAfterFrame, ch := v.ch, fr := v.fr } := hframe
    exact congrArg (fun x : State => { x with fr := v.fr.clearFlags fields.flags v.conditions }) hframe

end Sys2Proof.Machine
end

section
/-! PROOF. The configuration record as it is loaded (R26, R172). -/

namespace Sys2Proof.Machine

/-! ### Numbers (R172) -/

/-- A number outside its range is brought to the nearer limit. -/
theorem clampTo_eq_near {lo hi : Nat} (h : lo ≤ hi) (v : Nat) : clampTo lo hi v = if v < lo then lo else if hi < v then hi else v := by
  unfold clampTo
  split_ifs <;> omega

/-- A number stays exactly within its range. -/
theorem clampTo_eq_self_iff {lo hi : Nat} (h : lo ≤ hi) (v : Nat) : clampTo lo hi v = v ↔ inRange lo hi v = true := by
  simp only [clampTo, inRange, Bool.and_eq_true, decide_eq_true_eq]
  omega

/-- The lost time comes out above the stale time, and as written exactly where it was in its range and above the stale time. -/
theorem lostTime_spec (p : List Byte) :
    staleOf p < (correctedRecord p).lostTime ∧
      ((correctedRecord p).lostTime = fieldAt p 76 ↔ inRange 2000 60000 (fieldAt p 76) = true ∧ ¬lostClamped p ≤ staleOf p) := by
  have hlost : (correctedRecord p).lostTime = if lostClamped p ≤ staleOf p then 2 * staleOf p else lostClamped p := rfl
  rw [hlost, ← clampTo_eq_self_iff (by decide)]
  unfold lostClamped staleOf clampTo
  split <;> omega

/-! ### Codes (R172) -/

/-- The code of a bit rate (11 section 11.1). -/
def BitRate.code : BitRate → Byte
  | .low => 0
  | .high => 1

/-- The code of a photometer side, or of none (11 section 11.1). -/
def photometerCode : Option Side → Byte
  | none => 0
  | some .a => 1
  | some .b => 2

/-- The code of a filter width (11 section 11.1). -/
def FilterWidth.code : FilterWidth → Byte
  | .zero => 0
  | .half => 1
  | .one => 2
  | .two => 3

theorem BitRate.ofCode_eq_some_iff {b : Byte} {x : BitRate} : BitRate.ofCode b = some x ↔ b = x.code := by
  constructor
  · intro h
    unfold BitRate.ofCode at h
    split_ifs at h <;> cases h <;> assumption
  · rintro rfl
    cases x <;> rfl

theorem photometerSide_eq_some_iff {b : Byte} {x : Option Side} : photometerSide b = some x ↔ b = photometerCode x := by
  constructor
  · intro h
    unfold photometerSide at h
    split_ifs at h <;> cases h <;> assumption
  · rintro rfl
    rcases x with _ | _ | _ <;> rfl

theorem ProtectionMode.ofCode_eq_some_iff {b : Byte} {x : ProtectionMode} : ProtectionMode.ofCode b = some x ↔ b = x.code := by
  constructor
  · intro h
    unfold ProtectionMode.ofCode at h
    split_ifs at h <;> cases h <;> assumption
  · rintro rfl
    cases x <;> rfl

theorem FilterWidth.ofCode_eq_some_iff {b : Byte} {x : FilterWidth} : FilterWidth.ofCode b = some x ↔ b = x.code := by
  constructor
  · intro h
    unfold FilterWidth.ofCode at h
    split_ifs at h <;> cases h <;> assumption
  · rintro rfl
    cases x <;> rfl

section
variable {α : Type} {decode : Byte → Option α} {code : α → Byte} (hcode : ∀ {b x}, decode b = some x ↔ b = code x)
include hcode

/-- A field takes a value other than its default exactly where its byte is the code of that value. -/
theorem decoded_eq_iff {b : Byte} {x default : α} (h : x ≠ default) : (decode b).getD default = x ↔ b = code x := by
  rw [← hcode]
  cases decode b with
  | none => simp [h.symm]
  | some y => simp

/-- A byte names a value exactly where it is the code of what the field takes. -/
theorem decoded_named_iff {b : Byte} {default : α} : (decode b).isNone = false ↔ b = code ((decode b).getD default) := by
  cases h : decode b with
  | none => simpa using fun hb => by simp [hcode.2 hb] at h
  | some y => simpa using hcode.1 h

end

/-! ### Neighbours (R26, R172) -/

theorem mem_mergeEqual (l : List Byte) (a : Byte) : a ∈ mergeEqual l ↔ a ∈ l := by
  unfold mergeEqual
  split
  · split
    · next h => simp [h]
    · rfl
  · rfl

theorem mergeEqual_sublist (l : List Byte) : (mergeEqual l).Sublist l := by
  unfold mergeEqual
  split
  · split
    · exact .cons_cons _ (.cons _ .slnil)
    · exact .refl _
  · exact .refl _

theorem mem_usableNeighbours (p : List Byte) (a : Byte) : a ∈ usableNeighbours p ↔
    ((presence p 0 = true ∧ a = byteAt p 14) ∨ (presence p 1 = true ∧ a = byteAt p 15)) ∧
      a ≠ 0 ∧ a ≠ 255 ∧ a ≠ byteAt p 0 := by
  have hpresent (b : Bool) (x : Byte) : a ∈ (if b then [x] else []) ↔ b = true ∧ a = x := by cases b <;> simp
  simp only [usableNeighbours, mem_mergeEqual, List.mem_filter, presentNeighbours, List.mem_append, hpresent, canNamePeer,
    Bool.and_eq_true, bne_iff_ne, and_assoc]

/-- No neighbour is lost exactly where those that remain are those present. -/
theorem usableNeighbours_eq_iff (p : List Byte) :
    usableNeighbours p = presentNeighbours p ↔ ¬(usableNeighbours p).length < (presentNeighbours p).length := by
  have hsub : (usableNeighbours p).Sublist (presentNeighbours p) := (mergeEqual_sublist _).trans List.filter_sublist
  exact ⟨fun h => by rw [h]; exact lt_irrefl _, fun h => hsub.eq_of_length_le (Nat.le_of_not_lt h)⟩

/-! ### When a correction is made (R172) -/

theorem numericFields_ordered (p : List Byte) : ∀ f ∈ numericFields p, f.1 ≤ f.2.1 := by simp [numericFields]

theorem needsCorrection_eq_false_iff (p : List Byte) : needsCorrection p = false ↔
    (∀ f ∈ numericFields p, inRange f.1 f.2.1 f.2.2 = true) ∧ (presence p 2 = true → inRange 0 2000 (fieldAt p 11) = true) ∧
      ¬(presence p 4 = true ∧ byteAt p 91 = 0) ∧ (BitRate.ofCode (byteAt p 2)).isNone = false ∧
      (photometerSide (byteAt p 3)).isNone = false ∧ (ProtectionMode.ofCode (byteAt p 86)).isNone = false ∧
      (FilterWidth.ofCode (byteAt p 87)).isNone = false ∧ ¬lostClamped p ≤ staleOf p ∧
      ¬(usableNeighbours p).length < (presentNeighbours p).length := by
  simp only [needsCorrection, Bool.or_eq_false_iff, and_assoc, List.any_eq_false, Bool.not_eq_true', Bool.and_eq_false_iff,
    decide_eq_false_iff_not, beq_eq_false_iff_ne, Bool.not_eq_false, Bool.not_eq_false', or_iff_not_imp_left, not_and, ne_eq]

/-- Settles O9: every field is clamped, decoded or filtered by its rule, and a correction is made where one of the rules changes it. -/
theorem loadedRecordWithinRanges : Obligations.LoadedRecordWithinRanges := by
  intro p
  have hprofile (i : Nat) (hi : i < (byteAt p 16).toNat) :
      (recordProfile p)[i]? = some { distance := fieldAt p (17 + 4 * i), ratio := fieldAt p (19 + 4 * i) } := by
    simp [recordProfile, hi, breakpointAt]
  have hdistance (d : Nat) : ((if presence p 2 then some d else none) = if presence p 2 then some (fieldAt p 11) else none) ↔
      (presence p 2 = true → d = fieldAt p 11) := by cases presence p 2 <;> simp
  have hgroupIff : (correctedRecord p).group = byteAt p 91 ↔ ¬(presence p 4 = true ∧ byteAt p 91 = 0) := by
    by_cases h : presence p 4 = true ∧ byteAt p 91 = 0
    · simp [correctedRecord, h]
    · exact iff_of_true (if_neg (by rwa [Bool.and_eq_true, beq_iff_eq])) h
  refine ⟨⟨clampTo_eq_near (by decide) _, clampTo_eq_near (by decide) _, clampTo_eq_near (by decide) _,
      clampTo_eq_near (by decide) _, ?distanceB, clampTo_eq_near (by decide) _, clampTo_eq_near (by decide) _,
      clampTo_eq_near (by decide) _, clampTo_eq_near (by decide) _, clampTo_eq_near (by decide) _, clampTo_eq_near (by decide) _,
      clampTo_eq_near (by decide) _, ?lost, clampTo_eq_near (by decide) _, clampTo_eq_near (by decide) _,
      clampTo_eq_near (by decide) _, clampTo_eq_near (by decide) _, clampTo_eq_near (by decide) _⟩,
    (lostTime_spec p).1, decoded_eq_iff BitRate.ofCode_eq_some_iff (by decide),
    decoded_eq_iff photometerSide_eq_some_iff (by decide), decoded_eq_iff photometerSide_eq_some_iff (by decide),
    decoded_eq_iff ProtectionMode.ofCode_eq_some_iff (by decide), decoded_eq_iff ProtectionMode.ofCode_eq_some_iff (by decide),
    decoded_eq_iff FilterWidth.ofCode_eq_some_iff (by decide), decoded_eq_iff FilterWidth.ofCode_eq_some_iff (by decide),
    decoded_eq_iff FilterWidth.ofCode_eq_some_iff (by decide), rfl, rfl, rfl, rfl, rfl, ?group,
    by simp [correctedRecord, recordProfile], hprofile, (usableNeighbours_ok p).2.1, mem_usableNeighbours p, ?needed⟩
  case distanceB =>
    dsimp only
    rw [← clampTo_eq_near (lo := 0) (hi := 2000) (by decide)]
    rfl
  case lost =>
    dsimp only
    simp only [← clampTo_eq_near (show 500 ≤ 10000 by decide), ← clampTo_eq_near (show 2000 ≤ 60000 by decide)]
    rfl
  case group => exact if_congr (by rw [Bool.and_eq_true, beq_iff_eq]; exact Iff.rfl) rfl rfl
  case needed =>
    have hnumbers : (∀ f ∈ numericFields p, inRange f.1 f.2.1 f.2.2 = true) ↔ ∀ f ∈ numericFields p, clampTo f.1 f.2.1 f.2.2 = f.2.2 :=
      forall₂_congr fun f hf => (clampTo_eq_self_iff (numericFields_ordered p f hf) _).symm
    rw [needsCorrection_eq_false_iff, hnumbers, decoded_named_iff BitRate.ofCode_eq_some_iff,
      decoded_named_iff photometerSide_eq_some_iff, decoded_named_iff ProtectionMode.ofCode_eq_some_iff,
      decoded_named_iff FilterWidth.ofCode_eq_some_iff, ← usableNeighbours_eq_iff, ← clampTo_eq_self_iff (by decide)]
    simp only [numericFields, List.forall_mem_cons]
    constructor
    · rintro ⟨⟨h4, h6, h7, h9, h65, h66, h68, h69, h70, h72, h74, h76, h78, h80, h82, h84, h88, -⟩, h11, hgroup, hrate, hside, hmode,
        hfilter, hlost, hneighbours⟩
      refine ⟨⟨h4, h6, h7, h9, ?_, h65, h66, h68, h69, h70, h72, h74, (lostTime_spec p).2.2 ⟨(clampTo_eq_self_iff (by decide) _).1 h76, hlost⟩,
        h78, h80, h82, h84, h88, ?_⟩, hrate, hside, hmode, hfilter, hneighbours⟩
      · exact (hdistance _).2 h11
      · exact hgroupIff.2 hgroup
    · rintro ⟨⟨h4, h6, h7, h9, h11, h65, h66, h68, h69, h70, h72, h74, h76, h78, h80, h82, h84, h88, hgroup⟩, hrate, hside, hmode,
        hfilter, hneighbours⟩
      obtain ⟨h76, hlost⟩ := (lostTime_spec p).2.1 h76
      exact ⟨⟨h4, h6, h7, h9, h65, h66, h68, h69, h70, h72, h74, (clampTo_eq_self_iff (by decide) _).2 h76, h78, h80, h82, h84, h88, by simp⟩,
        (hdistance _).1 h11, hgroupIff.1 hgroup, hrate, hside, hmode, hfilter, hlost, hneighbours⟩

end Sys2Proof.Machine
end

section
/-! PROOF. The completion of the record read: a structural failure and FALLBACK (R171, R173), and the entry to LISTENING (R91, R119,
R170 to R173). -/

namespace Sys2Proof.Machine

/-! ### Structural failure (R60, R171) -/

theorem noResponse_iff (p : List Byte) : noResponse p = true ↔ (∀ b ∈ p, b = 0xFF) ∨ (∀ b ∈ p, b = 0x00) := by
  simp [noResponse]

/-- A usable profile, place by place (R60). -/
theorem profileUsable_iff (profile : List Breakpoint) : profileUsable profile = true ↔
    2 ≤ profile.length ∧ profile.length ≤ 12 ∧ (∃ b, profile[0]? = some b ∧ b.distance = 0) ∧
      (∀ (i : Nat) b c, profile[i]? = some b → profile[i + 1]? = some c → b.Precedes c) ∧ ∀ b ∈ profile, b.ratio ≤ 1000 := by
  have hchain : profile.IsChain Breakpoint.Precedes ↔
      ∀ (i : Nat) b c, profile[i]? = some b → profile[i + 1]? = some c → b.Precedes c := by
    rw [List.isChain_iff_getElem]
    constructor
    · intro h i b c hb hc
      obtain ⟨hi, rfl⟩ := List.getElem?_eq_some_iff.1 hb
      obtain ⟨hi', rfl⟩ := List.getElem?_eq_some_iff.1 hc
      exact h i hi'
    · intro h i hi
      exact h i _ _ (List.getElem?_eq_getElem _) (List.getElem?_eq_getElem hi)
  have hhead : (profile.head?.map (·.distance) == some 0) = true ↔ ∃ b, profile[0]? = some b ∧ b.distance = 0 := by
    rw [← List.head?_eq_getElem?, beq_iff_eq, Option.map_eq_some_iff]
  rw [← hchain, ← hhead, ← profileDescends_iff_isChain]
  simp only [profileUsable, Bool.and_eq_true, decide_eq_true_eq, List.all_eq_true]
  tauto

/-- The profile of a record is usable, in terms of the record's bytes (R60). -/
theorem recordProfile_usable_iff (p : List Byte) : profileUsable (recordProfile p) = true ↔
    2 ≤ (byteAt p 16).toNat ∧ (byteAt p 16).toNat ≤ 12 ∧ fieldAt p 17 = 0 ∧
      (∀ i, i + 1 < (byteAt p 16).toNat → (breakpointAt p i).Precedes (breakpointAt p (i + 1))) ∧
      ∀ i < (byteAt p 16).toNat, fieldAt p (19 + 4 * i) ≤ 1000 := by
  have hlength : (recordProfile p).length = (byteAt p 16).toNat := by simp [recordProfile]
  have hget (i : Nat) (b : Breakpoint) : (recordProfile p)[i]? = some b ↔ i < (byteAt p 16).toNat ∧ breakpointAt p i = b := by
    simp [recordProfile, List.getElem?_eq_some_iff]
  have hmem (b : Breakpoint) : b ∈ recordProfile p ↔ ∃ i < (byteAt p 16).toNat, breakpointAt p i = b := by simp [recordProfile]
  rw [profileUsable_iff, hlength]
  simp only [hget, hmem]
  constructor
  · rintro ⟨hmin, hmax, ⟨_, ⟨-, rfl⟩, hzero⟩, hchain, hratio⟩
    exact ⟨hmin, hmax, hzero, fun i hi => hchain i _ _ ⟨by omega, rfl⟩ ⟨hi, rfl⟩, fun i hi => hratio _ ⟨i, hi, rfl⟩⟩
  · rintro ⟨hmin, hmax, hzero, hchain, hratio⟩
    refine ⟨hmin, hmax, ⟨_, ⟨by omega, rfl⟩, hzero⟩, ?_, ?_⟩
    · rintro i _ _ ⟨-, rfl⟩ ⟨hi, rfl⟩
      exact hchain i hi
    · rintro _ ⟨i, hi, rfl⟩
      exact hratio i hi

/-- A structural failure, in terms of the record's bytes (R171). -/
theorem structuralFailure_iff (p : List Byte) : structuralFailure p = true ↔
    (∀ b ∈ p, b = 0xFF) ∨ (∀ b ∈ p, b = 0x00) ∨ (crc16 (p.take 94)).toNat ≠ fieldAt p 94 ∨ byteAt p 0 = 0 ∨ byteAt p 0 = 255 ∨
      (byteAt p 16).toNat < 2 ∨ 12 < (byteAt p 16).toNat ∨ fieldAt p 17 ≠ 0 ∨
      (∃ i, i + 1 < (byteAt p 16).toNat ∧ ¬(breakpointAt p i).Precedes (breakpointAt p (i + 1))) ∨
      ∃ i < (byteAt p 16).toNat, 1000 < fieldAt p (19 + 4 * i) := by
  have hprofile : profileUsable (recordProfile p) = false ↔ (byteAt p 16).toNat < 2 ∨ 12 < (byteAt p 16).toNat ∨ fieldAt p 17 ≠ 0 ∨
      (∃ i, i + 1 < (byteAt p 16).toNat ∧ ¬(breakpointAt p i).Precedes (breakpointAt p (i + 1))) ∨
      ∃ i < (byteAt p 16).toNat, 1000 < fieldAt p (19 + 4 * i) := by
    rw [← Bool.not_eq_true, recordProfile_usable_iff]
    simp only [not_and_or, Nat.not_le, not_forall, exists_prop, ne_eq]
  have hcrc : (!recordCrcGood p) = true ↔ (crc16 (p.take 94)).toNat ≠ fieldAt p 94 := by simp [recordCrcGood]
  simp only [structuralFailure, Bool.or_eq_true, noResponse_iff, hcrc, beq_iff_eq, Bool.not_eq_true', hprofile, or_assoc]

theorem Breakpoint.not_precedes_iff (b c : Breakpoint) :
    ¬b.Precedes c ↔ c.distance ≤ b.distance ∨ 2000 < c.distance ∨ b.ratio < c.ratio := by
  simp only [Breakpoint.Precedes, not_and_or, Nat.not_lt, Nat.not_le]

/-! ### The channels that start to drive at full output (R119, R121) -/

/-- Where every configured channel is healthy the count is n. -/
theorem ChannelBlock.healthyCount_eq {b : ChannelBlock} {n : Nat} (hn : n ≤ 4) (h : ∀ k, channelNumber k < n → (b.get k).healthy = true) :
    b.healthyCount n = n := by
  have hconfigured : (allChannels.filter fun k => decide (channelNumber k < n)).length = n := by interval_cases n <;> rfl
  refine (congrArg List.length (List.filter_congr fun k _ => ?_)).trans hconfigured
  by_cases hk : channelNumber k < n
  · simp [hk, h k hk]
  · simp [hk]

section
variable {u : State} {b : ChannelBlock} {n : Nat} (hn : n ≤ 4) (hcount : u.channelCount = n) (hch : u.ch = b.energised n)
  (hoff : ∀ k, n ≤ channelNumber k → (b.get k).state ≠ .driving)
include hn hcount hch hoff

/-- Full output handed to channels that have just started to drive: each configured channel drives at 10000 with nothing remembered,
the others stay without a command (R119, R121). -/
theorem State.handOver_energised :
    (∀ k, channelNumber k < n → ((u.handOver fullLevel).ch.get k).state = .driving ∧
        ((u.handOver fullLevel).ch.get k).openMark = false ∧ ((u.handOver fullLevel).ch.get k).command = 10000 ∧
        ((u.handOver fullLevel).ch.get k).history = []) ∧
      (∀ k, n ≤ channelNumber k → ((u.handOver fullLevel).ch.get k).state = (b.get k).state ∧
        ((u.handOver fullLevel).ch.get k).command = 0) ∧
      (1 ≤ n → (u.handOver fullLevel).ch.delivered = 10000) ∧ (u.handOver fullLevel).ChannelsComputed fun _ => none := by
  obtain ⟨hheld, honly, hcomputed, -⟩ := u.handOver_computes fullLevel
  have hstarted (k : ChannelId) (hk : channelNumber k < n) : u.ch.get k = { Channel.atReset with state := .driving } := by
    rw [hch, ChannelBlock.get_energised, if_pos hk]
  have hothers (k : ChannelId) (hk : n ≤ channelNumber k) : u.ch.get k = b.get k := by
    rw [hch, ChannelBlock.get_energised, if_neg (by omega)]
  have hhealthy : (u.handOver fullLevel).ch.healthyCount n = n := by
    rw [State.healthyCount_handOver]
    exact ChannelBlock.healthyCount_eq hn fun k hk => by rw [hstarted k hk]; rfl
  have hn' : (u.handOver fullLevel).channelCount = n := hcount
  have hfull : (if n = 0 then fullLevel else min ((fullLevel * n + n - 1) / n) 10000) = 10000 := by interval_cases n <;> rfl
  obtain ⟨hcommand, -, hdelivered, -⟩ := id hcomputed
  rw [hn', hheld, hhealthy, Option.getD_some] at hdelivered
  simp only [hn', hheld, hhealthy, Option.getD_some, hfull] at hcommand
  refine ⟨fun k hk => ?_, fun k hk => ?_, fun hpos => ?_, hcomputed.congr fun k hk _ => ?_⟩
  · have hget := honly.1 k
    rw [hstarted k hk] at hget
    have hstate : ((u.handOver fullLevel).ch.get k).state = .driving := by rw [hget]
    exact ⟨hstate, by rw [hget]; rfl, (hcommand k).trans (if_pos hstate), by rw [hget]; rfl⟩
  · have hstate : ((u.handOver fullLevel).ch.get k).state = (b.get k).state := by rw [(honly.health k).1, hothers k hk]
    exact ⟨hstate, (hcommand k).trans (if_neg (by rw [hstate]; exact hoff k hk))⟩
  · rw [hdelivered]
    interval_cases n <;> rfl
  · rw [(honly.health k).1] at hk
    have hconfigured : channelNumber k < n := by
      by_contra hout
      exact hoff k (by omega) (by rwa [hothers k (by omega)] at hk)
    rw [hstarted k hconfigured]
    rfl

end

/-! ### FALLBACK (R94, R173) -/

/-- The state that takes the values of R173, before full output is handed over. -/
def State.withoutRecord (s : State) (p : LineParams) (v : FallbackValues) (trim : Nat) : State :=
  { s with
    cl := { readDue := none, record := none, fallback := some v, configFault := true },
    fr := s.fr.configured (BitVec.allOnes 13) true,
    lc := s.lc.begin p s.now,
    dc := { s.dc with trim := trim },
    le := { s.le with station := .fallback, level := fullLevel, target := fullLevel },
    ch := s.ch.energised 4 }

theorem State.enterFallback_eq (s : State) (p : LineParams) (v : FallbackValues) (trim : Nat) :
    s.enterFallback p v trim = (s.withoutRecord p v trim).handOver fullLevel := rfl

/-- An image of 96 bytes is what the read gives (R170). -/
theorem recordImage_of_length {image : List Byte} (h : image.length = 96) : recordImage image = image := by
  rw [recordImage, ← h, List.take_left]

theorem exec_configReadComplete {s : State} {image : List Byte} {due : Time} (hdue : s.cl.readDue = some due)
    (hst : s.le.station = .configuring) (hlen : image.length = 96) :
    exec (.configReadComplete image) s = .next ((s.elapseTo due).configComplete image) := by
  simp only [exec, execConfigReadComplete, hdue, if_pos hst, recordImage_of_length hlen]

/-- The rate is high exactly where its byte says so (R172). -/
theorem rate_eq (b : Byte) : (BitRate.ofCode b).getD .low = if b = 1 then .high else .low := by
  split
  · next h => exact (decoded_eq_iff BitRate.ofCode_eq_some_iff (by decide)).2 h
  · next h =>
    cases hrate : (BitRate.ofCode b).getD .low with
    | low => rfl
    | high => exact absurd ((decoded_eq_iff BitRate.ofCode_eq_some_iff (by decide)).1 hrate) h

/-- Settles O10: the checks of R171 byte by byte, and the entry to FALLBACK with full output on four healthy channels. -/
theorem structuralFailureEntersFallback : Obligations.StructuralFailureEntersFallback := by
  refine ⟨noResponse_iff, profileUsable_iff, fun p => ?_, fun s image due hdue hst hlen hfails => ?_⟩
  · refine (structuralFailure_iff p).trans ?_
    simp only [Breakpoint.not_precedes_iff]
    exact Iff.rfl
  · let u := (s.elapseTo due).withoutRecord (fallbackLine image) (fallbackValues image) (fallbackTrim image)
    have hexec : exec (.configReadComplete image) s = .next (u.handOver fullLevel) :=
      (exec_configReadComplete hdue hst hlen).trans (congrArg _ (if_pos hfails))
    obtain ⟨hall, -, hdelivered, hcomputed⟩ := State.handOver_energised (u := u) (b := s.ch) (n := 4) le_rfl rfl rfl
      fun k hk => absurd hk (by cases k <;> decide)
    have hfour (k : ChannelId) : channelNumber k < 4 := by cases k <;> decide
    obtain ⟨hheld, -, -, hraised⟩ := u.handOver_computes fullLevel
    have hflag : u.fr.isSet .configFault = true := (s.fr.configured_grows (BitVec.allOnes 13) true).2.1 rfl
    have hmask : u.fr.mask = BitVec.allOnes 13 := FaultRecord.raiseIf_mask _ _ _
    refine ⟨_, hexec, rfl, rfl, rfl, rfl, ?params, rfl, rfl, fun hnone => ?silent, fun hsome => ?read, fun k => ?channels, hheld, hdelivered (by decide),
      hcomputed, rfl, hraised.1.trans hmask, (hraised.2 _).1 hflag, ?alarm, rfl, rfl, rfl, rfl⟩
    case params =>
      have haddress : fallbackAddress image =
          if noResponse image = true ∨ byteAt image 0 = 0 ∨ byteAt image 0 = 255 then 254 else byteAt image 0 :=
        if_congr (by simp only [Bool.or_eq_true, beq_iff_eq, or_assoc]) rfl rfl
      rw [← haddress, ← rate_eq]
      rfl
    case silent =>
      exact ⟨congrArg some (if_pos hnone), if_pos hnone⟩
    case read =>
      have hread : ¬noResponse image = true := by simp [hsome]
      exact ⟨congrArg some (if_neg hread), if_neg hread⟩
    case channels =>
      obtain ⟨hstate, -, hcommand, -⟩ := hall k (hfour k)
      obtain ⟨-, htimer, -⟩ := hcomputed
      exact ⟨hstate, hcommand, (htimer k).trans (if_neg fun h => absurd h.1 (by simp [u, State.withoutRecord, StationState.regulates]))⟩
    case alarm =>
      have hfollows : (u.handOver fullLevel).fr.Follows := (u.handOver_faultsFollow fullLevel).alarm (s.fr.configured_grows _ _).2.2
      refine hfollows.2 ⟨.configFault, (hraised.2 _).1 hflag, ?_⟩
      rw [hraised.1.trans hmask]
      decide

/-! ### The capability chain (R168) -/

/-- The chain a station forms is the chain of R168. -/
theorem State.identChain_eq (s : State) : s.identChain = s.chainOfR168 := by
  have hphotometer : s.photometerRecord = (match s.cfg.side with
      | some x => if s.le.station.regulates then [2, 4, x.code] ++ be16 s.cfg.fullScale ++ [BitVec.ofNat 8 s.pfe.gain.value] else []
      | none => []) := by
    unfold State.photometerRecord
    cases s.le.station.regulates <;> cases s.cfg.side <;> rfl
  have hposition : s.positionRecord = (if s.le.station.regulates then
      (match s.cfg.distanceB with
        | some d => [4, 4] ++ be16 s.cfg.distanceA ++ be16 d
        | none => [4, 2] ++ be16 s.cfg.distanceA) else []) := by
    unfold State.positionRecord
    cases s.cfg.distanceB <;> rfl
  have hcounters : s.countersRecord = [5, 6] ++ be16 s.lc.lineResets ++ be16 s.lc.collisionDrops ++ be16 s.lc.crcErrors := rfl
  rw [State.identChain, hphotometer, hposition, hcounters]
  simp only [State.chainOfR168, List.append_assoc]
  rfl

/-- The chain is formed from these blocks alone (R168). -/
theorem State.chainOfR168_congr {s t : State} (hcl : t.cl = s.cl) (hle : t.le = s.le) (hch : t.ch = s.ch)
    (hgain : t.pfe.gain = s.pfe.gain) (hparams : t.lc.params = s.lc.params) (hresets : t.lc.lineResets = s.lc.lineResets)
    (hdrops : t.lc.collisionDrops = s.lc.collisionDrops) (herrors : t.lc.crcErrors = s.lc.crcErrors) :
    t.chainOfR168 = s.chainOfR168 := by
  have hcfg : t.cfg = s.cfg := by rw [State.cfg, State.cfg, hcl]
  have hline : t.line = s.line := by rw [State.line, State.line, hparams]
  have hcount : t.channelCount = s.channelCount := by rw [State.channelCount, State.channelCount, hcfg, hle]
  have hyield : t.yieldE = s.yieldE := by rw [State.yieldE, State.yieldE, hcl]
  have hmode : t.protection = s.protection := by rw [State.protection, State.protection, hcfg, hle]
  unfold State.chainOfR168
  rw [hcfg, hline, hcount, hyield, hmode, hle, hch, hgain, hresets, hdrops, herrors]

/-- What a computation of the channel block gives still holds where more flags are set. -/
theorem State.ChannelsComputed.of_flags {s t : State} {timer : ChannelId → Option Time} (h : s.ChannelsComputed timer)
    (hnow : t.now = s.now) (hcl : t.cl = s.cl) (hle : t.le = s.le) (hch : t.ch = s.ch)
    (hset : ∀ g, s.fr.isSet g = true → t.fr.isSet g = true) : t.ChannelsComputed timer := by
  have hcount : t.channelCount = s.channelCount := by rw [State.channelCount, State.channelCount, State.cfg, State.cfg, hcl, hle]
  obtain ⟨hcommand, htimer, hdelivered, hpart, hlatched, hopen, hpartFlag, hlatchedFlag, hopenFlag⟩ := h
  unfold State.ChannelsComputed
  rw [hcount, hnow, hle, hch]
  exact ⟨hcommand, htimer, hdelivered, hpart, hlatched, hopen, fun hp => hset _ (hpartFlag hp), fun hl => hset _ (hlatchedFlag hl),
    fun ho => hset _ (hopenFlag ho)⟩

/-! ### The photometer at its start (R2, R14, R146) -/

/-- The front end with its timers started (R2, R14). -/
def State.photometerStarted (s : State) : State :=
  { s with pfe := { s.pfe with sampleTimer := some (s.now + 20000 * s.cfg.samplePeriod),
                               reportTimer := some (s.now + 20000 * s.reportPeriod), placedAt := s.now } }

/-- Where the report period is not 0 the start of the front end places nothing: PHIN outside its band only begins SENSOR_FAULT
(R146). -/
theorem State.startPhotometer_eq {s : State} (hperiod : 1 ≤ s.reportPeriod) : s.startPhotometer =
    if s.pfeOn then (if s.phinInBand then s.photometerStarted else s.photometerStarted.faulted) else s := by
  have hstarted : s.startPhotometer =
      if s.pfeOn then (if s.phinInBand then s.photometerStarted else s.photometerStarted.beginSensorFault) else s := by
    simp only [State.startPhotometer, ms_eq]
    rfl
  have hquarter : ¬(1 ≤ s.photometerStarted.pfe.lastReported ∧
      20000 * s.photometerStarted.reportPeriod ≤ 4 * (s.photometerStarted.now - s.photometerStarted.pfe.placedAt)) := by
    rintro ⟨-, hpassed⟩
    have hzero : s.photometerStarted.now - s.photometerStarted.pfe.placedAt = 0 := Nat.sub_self _
    have hsame : s.photometerStarted.reportPeriod = s.reportPeriod := rfl
    rw [hzero, hsame] at hpassed
    omega
  rw [hstarted, State.beginSensorFault_eq, if_neg hquarter]

/-- The start of the front end touches only the front end and the flag SENSOR_FAULT; the gain stays (R2, R146, log 13). -/
theorem State.startPhotometer_frame {s : State} (hperiod : 1 ≤ s.reportPeriod) :
    s.startPhotometer = { s with pfe := s.startPhotometer.pfe, fr := s.startPhotometer.fr } ∧
      s.startPhotometer.pfe.gain = s.pfe.gain ∧ s.startPhotometer.RaisesOnly s [.sensorFault] := by
  rw [State.startPhotometer_eq hperiod]
  split
  · split
    · exact ⟨rfl, rfl, .refl _ _⟩
    · exact ⟨rfl, rfl, s.raiseIf_raisesOnly true .sensorFault⟩
  · exact ⟨rfl, rfl, .refl _ _⟩

/-! ### The entry to LISTENING (R91, R119, R173) -/

section
variable {s : State} {image : List Byte} {due : Time} (hdue : s.cl.readDue = some due) (hst : s.le.station = .configuring)
  (hlen : image.length = 96) (hgood : structuralFailure image = false)

/-- The state on entry to LISTENING before the front end starts. -/
def State.listeningEntered (s : State) (r : Record) (corrected : Bool) : State :=
  ((s.loaded r corrected).handOver fullLevel).fillIdent 255

include hdue hst hlen hgood

theorem exec_goodRecord : exec (.configReadComplete image) s =
    .next ((s.elapseTo due).listeningEntered (correctedRecord image) (needsCorrection image)).startPhotometer := by
  rw [exec_configReadComplete hdue hst hlen, State.configComplete, if_neg (by simp [hgood]), State.enterListening_eq]
  rfl

end

theorem State.listeningEntered_reportPeriod (s : State) (p : List Byte) (corrected : Bool) :
    1 ≤ (s.listeningEntered (correctedRecord p) corrected).reportPeriod := by
  have hperiod : (s.listeningEntered (correctedRecord p) corrected).reportPeriod = clampTo 250 2000 (fieldAt p 78) := rfl
  have hwithin := (clampTo_within (show 250 ≤ 2000 by decide) (fieldAt p 78)).1
  omega

/-- Settles O8: the blocks start from the record, and the front end starts with nothing to place. -/
theorem entryToListeningStartsBlocks : Obligations.EntryToListeningStartsBlocks := by
  intro s image due hdue hst hlen hgood
  let w := (s.elapseTo due).listeningEntered (correctedRecord image) (needsCorrection image)
  have hperiod := (s.elapseTo due).listeningEntered_reportPeriod image (needsCorrection image)
  have hstart : w.startPhotometer = _ := State.startPhotometer_eq hperiod
  have hon : w.pfeOn = true ↔ (correctedRecord image).side ≠ none := Option.isSome_iff_ne_none
  obtain ⟨hframe, -, -⟩ := State.startPhotometer_frame hperiod
  refine ⟨_, exec_goodRecord hdue hst hlen hgood, fun e => ?entries, ?trim, ?lockDown, ?ratioA, ?ratioB, ⟨fun hside hin => ?started,
    fun hside hout => ?fault⟩, fun hnone => ?off⟩
  case entries =>
    rw [hframe]
    refine (reservedEntries_perm _ _).mem_iff.trans ?_
    rw [List.mem_map]
    exact ⟨fun ⟨a, ha, he⟩ => ⟨a, ha, he.symm⟩, fun ⟨a, ha, he⟩ => ⟨a, ha, he.symm⟩⟩
  case trim => rw [hframe]; rfl
  case lockDown => rw [hframe]; rfl
  case ratioA => rw [hframe]; rfl
  case ratioB => rw [hframe]; rfl
  case started =>
    rw [hstart, if_pos (hon.2 hside), if_pos (show w.phinInBand = true from hin)]
    rfl
  case fault =>
    rw [hstart, if_pos (hon.2 hside), if_neg (by rw [show w.phinInBand = false from hout]; simp)]
    exact ⟨rfl, FaultRecord.isSet_raiseIf_self _ rfl _⟩
  case off =>
    rw [hstart, if_neg fun h => hon.1 h hnone]
    rfl

/-- Settles O7: full output is handed to the channels that start to drive, and the chain is taken before the front end starts, which
changes nothing in it. -/
theorem goodRecordEntersListening : Obligations.GoodRecordEntersListening := by
  intro s image due hdue hst hlen hgood hoff
  let r := correctedRecord image
  let u := (s.elapseTo due).loaded r (needsCorrection image)
  let w := (s.elapseTo due).listeningEntered r (needsCorrection image)
  have hperiod := (s.elapseTo due).listeningEntered_reportPeriod image (needsCorrection image)
  obtain ⟨hframe, hgain, hraised⟩ := State.startPhotometer_frame hperiod
  have hcount : r.channelCount ≤ 4 := (clampTo_within (by decide) _).2
  obtain ⟨hdriving, hothers, -, hcomputed⟩ := State.handOver_energised (u := u) (b := s.ch) hcount rfl rfl
    fun k _ => by rw [hoff k]; decide
  obtain ⟨hheld, -, -, hflags⟩ := u.handOver_computes fullLevel
  have hfilled := LineControl.fill_slotFilled u.lc .ident
    { dest := 255, kind := .ident, tag := 0, payload := (u.handOver fullLevel).identChain } u.line u.now
  obtain ⟨hcontent, -, -, -, -, -, hlc⟩ := hfilled
  have hw : w.lc = u.lc.fill .ident
    { dest := 255, kind := .ident, tag := 0, payload := (u.handOver fullLevel).identChain } u.line u.now := rfl
  rw [← hw] at hlc hcontent
  have hconfig : u.fr.isSet .configFault = true ↔ needsCorrection image = true ∨ s.fr.isSet .configFault = true := by
    have hset : u.fr.isSet .configFault = (s.fr.isSet .configFault || (needsCorrection image && true)) :=
      FaultRecord.isSet_raiseIf _ _ _ _
    rw [hset, Bool.and_true, Bool.or_eq_true, or_comm]
  have hmask : u.fr.mask = BitVec.ofNat 13 (fieldAt image 89) := FaultRecord.raiseIf_mask _ _ _
  refine ⟨_, exec_goodRecord hdue hst hlen hgood, ?_⟩
  change w.startPhotometer = _ at hframe
  have hch : w.startPhotometer.ch = (u.handOver fullLevel).ch := by rw [hframe]; rfl
  have hlcKept : w.startPhotometer.lc = { u.lc with slots := w.lc.slots, attempt := w.lc.attempt } := by rw [hframe]; exact hlc
  have hle : w.startPhotometer.le = u.le := by rw [hframe]; rfl
  have hcl : w.startPhotometer.cl = u.cl := by rw [hframe]; rfl
  have hnow : w.startPhotometer.now = u.now := by rw [hframe]; rfl
  have hchain : w.startPhotometer.chainOfR168 = (u.handOver fullLevel).identChain :=
    (State.chainOfR168_congr (s := u.handOver fullLevel) hcl hle hch hgain (congrArg LineControl.params hlcKept :)
      (congrArg LineControl.lineResets hlcKept :) (congrArg LineControl.collisionDrops hlcKept :)
      (congrArg LineControl.crcErrors hlcKept :)).trans (State.identChain_eq _).symm
  have hsticky (g : Flag) : (u.handOver fullLevel).fr.isSet g = true → w.startPhotometer.fr.isSet g = true := (hraised.2 g).1
  obtain ⟨-, htimer, -⟩ := id hcomputed
  refine ⟨hnow, hcl, ?level, hch ▸ hheld, fun k hk => ?drives, fun k hk => ?off, congrArg LineControl.params hlcKept,
    congrArg LineControl.idle hlcKept, congrArg LineControl.lastChar hlcKept, hcomputed.of_flags hnow hcl hle hch hsticky, ?ident,
    hraised.1.trans (hflags.1.trans hmask), ?fault, ?pwm, ?ol, ?pa⟩
  case level =>
    have htwice (n : Nat) : ms (2 * n) = 40000 * n := by rw [ms_eq, ← Nat.mul_assoc]
    rw [hle, ← htwice]
    rfl
  case drives =>
    obtain ⟨hstate, hmark, hcommand, hhistory⟩ := hdriving k hk
    have hentered : (u.handOver fullLevel).now = max s.now due := rfl
    have hruns := (htimer k).trans (if_pos ⟨rfl, hstate, hmark, by rw [hcommand]; decide⟩)
    rw [Option.getD_none, hentered] at hruns
    rw [hch]
    exact ⟨hstate, hcommand, hhistory, hruns⟩
  case off =>
    rw [hch, ← hoff k]
    exact hothers k hk
  case ident =>
    rw [hlcKept, hchain]
    exact hcontent
  case fault =>
    have hsame : w.startPhotometer.fr.isSet .configFault = u.fr.isSet .configFault :=
      ((hraised.2 .configFault).2 (by decide)).trans ((hflags.2 .configFault).2 (by decide))
    rw [hsame, hconfig]
  case pwm => rw [hch]; rfl
  case ol => rw [hframe]; rfl
  case pa => rw [hframe]; rfl

end Sys2Proof.Machine
end

section
/-! PROOF. Receiving: the checks of a whole frame in their order (R151 to R153), its characters (R149, R150), and the answer to an
IDENT-REQ (R155). -/

namespace Sys2Proof.Machine

/-! ### What is heard (R150, R158) -/

/-- The state once characters have been heard that gave no valid frame. -/
def State.afterNoise (s : State) : State := { s with lc := s.lineAfterNoise }

theorem State.Hears.onLine {s : State} (h : s.Hears) : s.le.station.onLine = true := (StationState.onLine_iff _).2 h.1

/-- While receiving, a frame step notes the line and checks the frame, or abandons one above 48 bytes (R150). -/
theorem State.Hears.exec_frame {s : State} (h : s.Hears) (k : FrameKind) (f : Frame) :
    exec (frameCommand k f) s = .next (if 48 < f.payload.length then s.afterNoise.abandonOverlong k.code
      else s.afterNoise.wholeFrame (rawOfFrame k f)) := by
  have hstep : exec (frameCommand k f) s = .next (s.frameStep k f) := by cases k <;> rfl
  have hheard : ({ s with lc := s.lc.noteCharacter s.now } : State).withAssembly [] = s.afterNoise := by
    rw [LineControl.noteCharacter_of_not_sending h.2]
    rfl
  rw [hstep, State.frameStep, if_pos (by rw [h.onLine, h.2]; rfl), State.arrive, hheard]
  rfl

/-- Outside of receiving a frame step changes nothing (R150). -/
theorem exec_frame_of_not_hears {s : State} (h : ¬s.Hears) (k : FrameKind) (f : Frame) : exec (frameCommand k f) s = .next s := by
  have hstep : exec (frameCommand k f) s = .next (s.frameStep k f) := by cases k <;> rfl
  have hdeaf : ¬(s.le.station.onLine && !s.lc.sending) = true := by
    rw [Bool.and_eq_true, StationState.onLine_iff, Bool.not_eq_true']
    exact h
  rw [hstep, State.frameStep, if_neg hdeaf]

/-! ### The checks (R151 to R153) -/

/-- The length of each kind (R151). -/
def FrameKind.Fits (k : FrameKind) (len : Nat) : Prop :=
  match k with
  | .level => len = 11
  | .portal => len = 5
  | .override => len = 5
  | .trim => len = 3
  | .clear => len = 3
  | .identReq => len = 0
  | .ident => 4 ≤ len ∧ len ≤ 48
  | .reset => len = 0

theorem FrameKind.fits_iff (k : FrameKind) (len : Nat) : k.Fits len ↔ k.lengthFits len = true := by
  cases k <;> simp [FrameKind.Fits, FrameKind.lengthFits]

section
variable {p : LineParams} {r : RawFrame}

theorem checkFrame_badCrc (h : crc16 r.covered ≠ r.crc) : checkFrame p r = .counted := if_pos h

variable (hcrc : crc16 r.covered = r.crc)
include hcrc

theorem checkFrame_noSource (hsrc : r.src = 0) : checkFrame p r = .discarded := by
  rw [checkFrame, if_neg (not_not.2 hcrc), if_pos hsrc]

theorem checkFrame_unknownKind (hkind : FrameKind.ofCode r.kind = none) : checkFrame p r = .discarded := by
  rw [checkFrame, if_neg (not_not.2 hcrc), hkind]
  exact ite_self _

variable (hsrc : r.src ≠ 0) {k : FrameKind} (hkind : FrameKind.ofCode r.kind = some k)
include hsrc hkind

theorem checkFrame_known : checkFrame p r =
    if !k.lengthFits r.len then .counted else if r.src = p.address then .ownSource
    else if p.addressed r.dest then .accepted k else .notAddressed := by
  rw [checkFrame, if_neg (not_not.2 hcrc), if_neg hsrc, hkind]

end

/-- Settles O47: the checks of R151 in their order, each with what it does to the line controller and the fault record. -/
theorem frameChecksInOrder : Obligations.FrameChecksInOrder := by
  intro s k f
  let r := rawOfFrame k f
  have hkind : FrameKind.ofCode r.kind = some k := FrameKind.ofCode_code k
  have hshort (hlen : f.payload.length ≤ 48) : ¬48 < f.payload.length := by omega
  have hfits : k.Fits f.payload.length ↔ k.lengthFits r.len = true := k.fits_iff _
  refine ⟨fun h => exec_frame_of_not_hears h k f, fun h hbad => ?_, fun h hgood hsrc => ?_, fun h hgood hsrc hlen => ?_,
    fun h hgood hsrc hlen hown => ?_, fun h hgood hsrc hlen hother haddr => ?_⟩
  · rw [h.exec_frame]
    by_cases hlong : 48 < f.payload.length
    · rw [if_pos hlong, State.abandonOverlong, if_pos (by rw [FrameKind.ofCode_code]; rfl)]
      rfl
    · have hcrc : crc16 r.covered ≠ r.crc := fun hcrc => hbad ⟨by omega, hcrc⟩
      rw [if_neg hlong, State.wholeFrame, checkFrame_badCrc hcrc]
      rfl
  · rw [h.exec_frame, if_neg (hshort hgood.1), State.wholeFrame, checkFrame_noSource (r := r) hgood.2 hsrc]
    rfl
  · rw [h.exec_frame, if_neg (hshort hgood.1), State.wholeFrame, checkFrame_known (r := r) hgood.2 hsrc hkind,
      if_pos (by simpa using mt hfits.2 hlen)]
    rfl
  · have hlen := hfits.1 hlen
    rw [h.exec_frame, if_neg (hshort hgood.1), State.wholeFrame, checkFrame_known (r := r) hgood.2 hsrc hkind,
      if_neg (by simp [hlen]),
      if_pos (show r.src = s.afterNoise.line.address from hown)]
    exact ⟨_, rfl, rfl, rfl, rfl⟩
  · have hlen := hfits.1 hlen
    have haddressed : ¬s.line.addressed f.dest = true := mt (s.line_addressed_iff f.dest).1 haddr
    rw [h.exec_frame, if_neg (hshort hgood.1), State.wholeFrame, checkFrame_known (r := r) hgood.2 hsrc hkind,
      if_neg (by simp [hlen]),
      if_neg (show ¬r.src = s.afterNoise.line.address from hother),
      if_neg (show ¬s.afterNoise.line.addressed r.dest = true from haddressed)]
    rfl

/-! ### One character (R149, R150) -/

/-- The state once characters have been heard of which `bytes` are assembled. -/
def State.assembling (s : State) (bytes : List Byte) : State := { s with lc := { s.lineAfterNoise with assembly := bytes } }

/-- What another character does to an assembly, which holds `bytes` with it (R150). -/
def State.grown (s : State) (bytes : List Byte) : State :=
  if bytes.length < 5 then s.assembling bytes
  else if 48 < (byteAt bytes 4).toNat then s.afterNoise.abandonOverlong (byteAt bytes 2)
  else if bytes.length < 7 + (byteAt bytes 4).toNat then s.assembling bytes
  else s.afterNoise.wholeFrame (rawOfAssembly bytes)

/-- While receiving a character is taken (R150). -/
theorem State.Hears.exec_character {s : State} (h : s.Hears) (c : LineChar) :
    exec (.characterReceived c) s = .next (if c.mark then s.assembling [c.data]
      else if s.lc.assembly.isEmpty then s.assembling s.lc.assembly else s.grown (s.lc.assembly ++ [c.data])) := by
  have htaken : exec (.characterReceived c) s = .next (s.takeCharacter c) := by
    have hsending := h.2
    unfold LineControl.sending at hsending
    simp only [exec, execCharacterReceived, if_pos h.onLine]
    cases ha : s.lc.attempt with
    | none => rfl
    | some a => cases hp : a.phase with
      | waiting due => simp only [hp]
      | sending start sent => simp [ha, hp] at hsending
  rw [htaken, State.takeCharacter, LineControl.noteCharacter_of_not_sending h.2]
  rfl

theorem byteAt_append_left {p q : List Byte} {i : Nat} (h : i < p.length) : byteAt (p ++ q) i = byteAt p i := by
  simp [byteAt, List.getD_eq_getElem?_getD, List.getElem?_append_left h]

theorem byteAt_append_length (p : List Byte) (b : Byte) (q : List Byte) : byteAt (p ++ b :: q) p.length = b := by
  simp [byteAt, List.getD_eq_getElem?_getD]

/-- The kind characters that name a kind (R151). -/
theorem FrameKind.ofCode_isSome_iff (b : Byte) : (FrameKind.ofCode b).isSome = true ↔ 1 ≤ b.toNat ∧ b.toNat ≤ 8 := by
  constructor
  · intro h
    obtain ⟨k, hk⟩ := Option.isSome_iff_exists.1 h
    rw [FrameKind.eq_code_of_ofCode hk]
    cases k <;> decide
  · rintro ⟨hlo, hhi⟩
    obtain ⟨n, hn⟩ : ∃ n, n = b.toNat := ⟨_, rfl⟩
    have hb : b = BitVec.ofNat 8 n := by rw [hn, BitVec.ofNat_toNat, BitVec.setWidth_eq]
    rw [← hn] at hlo hhi
    rw [hb]
    interval_cases n <;> rfl

/-- Two bytes in a row as a field and as a word (R164). -/
theorem fieldAt_eq_append (p : List Byte) (i : Nat) : fieldAt p i = (byteAt p i ++ byteAt p (i + 1) : Word16).toNat := by
  rw [BitVec.toNat_append, ← Nat.shiftLeft_add_eq_or_of_lt (byteAt p (i + 1)).isLt, Nat.shiftLeft_eq]
  rfl

/-- The bytes that the CRC of an assembled frame covers are its first 5 + L (R151). -/
theorem covered_rawOfAssembly {bytes : List Byte} (h : 5 ≤ bytes.length) :
    (rawOfAssembly bytes).covered = bytes.take (5 + (byteAt bytes 4).toNat) := by
  match bytes, h with
  | d :: s :: k :: t :: l :: rest, _ =>
    have hlen : BitVec.ofNat 8 l.toNat = l := by rw [BitVec.ofNat_toNat, BitVec.setWidth_eq]
    have hbyte : byteAt (d :: s :: k :: t :: l :: rest) 4 = l := rfl
    rw [hbyte, Nat.add_comm 5]
    simp only [RawFrame.covered, rawOfAssembly, hbyte, hlen]
    rfl

/-- The CRC of an assembled frame is the field after its payload (R164). -/
theorem crc_rawOfAssembly (bytes : List Byte) :
    (rawOfAssembly bytes).crc.toNat = fieldAt bytes (5 + (byteAt bytes 4).toNat) := by
  rw [fieldAt_eq_append, show 5 + (byteAt bytes 4).toNat + 1 = 6 + (byteAt bytes 4).toNat by omega]
  rfl

/-- Settles O49: a character begins, extends or ends the assembly; a whole frame of an unknown kind fails the CRC or is discarded. -/
theorem characterAssembled : Obligations.CharacterAssembled := by
  intro s c
  refine ⟨fun h => ?ignored, ?stop, fun h hm => ?mark, fun h hm he => ?stray, fun h hm he hgrows => ?grows, fun h hm he hlong => ?overlong,
    fun h hm he => ?whole⟩
  case ignored => exact if_neg (by simp [h, StationState.onLine])
  case stop => rfl
  case mark => rw [h.exec_character, if_pos hm]; rfl
  case stray => rw [h.exec_character, if_neg (by simp [hm]), if_pos (by simp [he]), he]; rfl
  all_goals
    have hempty : ¬s.lc.assembly.isEmpty = true := by
      rw [List.isEmpty_iff_length_eq_zero]
      omega
    have hlength : (s.lc.assembly ++ [c.data]).length = s.lc.assembly.length + 1 := by simp
    rw [h.exec_character, if_neg (by simp [hm]), if_neg hempty, State.grown, hlength]
  case grows =>
    rcases hgrows with hearly | ⟨hfive, hlen, hpart⟩
    · rw [if_pos hearly]
      rfl
    · rw [if_neg (by omega), if_neg (Nat.not_lt.2 hlen), if_pos hpart]
      rfl
  case overlong =>
    have hdata : byteAt (s.lc.assembly ++ [c.data]) 4 = c.data := by rw [← he, byteAt_append_length]
    have hkind : byteAt (s.lc.assembly ++ [c.data]) 2 = byteAt s.lc.assembly 2 := byteAt_append_left (by omega)
    have hknown := FrameKind.ofCode_isSome_iff (byteAt s.lc.assembly 2)
    rw [if_neg (by omega), hdata, if_pos hlong, hkind, State.abandonOverlong]
    by_cases hk : (FrameKind.ofCode (byteAt s.lc.assembly 2)).isSome = true
    · rw [if_pos hk, if_pos (hknown.1 hk)]
      rfl
    · rw [if_neg hk, if_neg (mt hknown.2 hk)]
      rfl
  case whole =>
    dsimp only
    intro hlen hwhole hunknown
    let bytes := s.lc.assembly ++ [c.data]
    have hkind : FrameKind.ofCode (rawOfAssembly bytes).kind = none := by
      rw [← Option.not_isSome_iff_eq_none, FrameKind.ofCode_isSome_iff]
      rcases hunknown with h | h
      · rw [show (rawOfAssembly bytes).kind = 0 from h]
        decide
      · exact fun hin => absurd hin.2 (Nat.not_le.2 h)
    have hcrc : crc16 (rawOfAssembly bytes).covered = (rawOfAssembly bytes).crc ↔
        (crc16 (bytes.take (5 + (byteAt bytes 4).toNat))).toNat = fieldAt bytes (5 + (byteAt bytes 4).toNat) := by
      rw [covered_rawOfAssembly (by rw [hlength]; omega), ← crc_rawOfAssembly, BitVec.toNat_inj]
    rw [if_neg (by omega), if_neg (Nat.not_lt.2 hlen), if_neg (by omega), State.wholeFrame]
    by_cases hgood : crc16 (rawOfAssembly bytes).covered = (rawOfAssembly bytes).crc
    · rw [if_pos (hcrc.1 hgood), checkFrame_unknownKind hgood hkind]
      rfl
    · rw [if_neg (mt hcrc.2 hgood), checkFrame_badCrc hgood]
      rfl

/-! ### A frame character by character (R149, R150) -/

/-- The bytes of a frame as they stand on the line, the last two being its own CRC. -/
def lineBytes (k : FrameKind) (f : Frame) : List Byte := (rawOfFrame k f).covered ++ be16 f.crc.toNat

/-- A word is its two bytes, high byte first (R164). -/
theorem hiByte_append_loByte (w : Word16) : (hiByte w.toNat ++ loByte w.toNat : Word16) = w := by
  have hw := w.isLt
  refine BitVec.eq_of_toNat_eq ?_
  rw [BitVec.toNat_append, ← Nat.shiftLeft_add_eq_or_of_lt (loByte w.toNat).isLt, Nat.shiftLeft_eq]
  simp only [hiByte, loByte, BitVec.toNat_ofNat]
  omega

/-- What its bytes assemble to is the frame (R149, R164). -/
theorem rawOfAssembly_lineBytes (k : FrameKind) {f : Frame} (h : f.payload.length ≤ 48) :
    (lineBytes k f).length = 7 + f.payload.length ∧ (byteAt (lineBytes k f) 4).toNat = f.payload.length ∧
      rawOfAssembly (lineBytes k f) = rawOfFrame k f := by
  let covered := (rawOfFrame k f).covered
  have hcovered : covered.length = 5 + f.payload.length := by
    simp only [covered, RawFrame.covered, rawOfFrame, List.length_cons]
    omega
  have hlen : (byteAt (lineBytes k f) 4).toNat = f.payload.length := by
    rw [show byteAt (lineBytes k f) 4 = BitVec.ofNat 8 f.payload.length from rfl, BitVec.toNat_ofNat]
    omega
  have hhigh : byteAt (lineBytes k f) (5 + f.payload.length) = hiByte f.crc.toNat := by
    rw [← hcovered]
    exact byteAt_append_length covered _ _
  have hlow : byteAt (lineBytes k f) (6 + f.payload.length) = loByte f.crc.toNat := by
    have hsplit : lineBytes k f = (covered ++ [hiByte f.crc.toNat]) ++ [loByte f.crc.toNat] := by
      rw [List.append_assoc]
      rfl
    rw [hsplit, show 6 + f.payload.length = (covered ++ [hiByte f.crc.toNat]).length by
      rw [List.length_append, hcovered, List.length_singleton]; omega]
    exact byteAt_append_length _ _ _
  have hpayload : ((lineBytes k f).drop 5).take f.payload.length = f.payload := List.take_left
  refine ⟨by rw [lineBytes, List.length_append, hcovered]; simp only [be16, List.length_cons, List.length_nil]; omega, hlen, ?_⟩
  rw [rawOfAssembly, hlen, hpayload, hhigh, hlow, hiByte_append_loByte]
  rfl

/-- A station that receives goes on receiving while it assembles. -/
theorem State.Hears.assembling {s : State} (h : s.Hears) (bytes : List Byte) : (s.assembling bytes).Hears := ⟨h.1, rfl⟩

/-- The characters after the first extend the assembly, and the last of them completes the frame (R150). -/
theorem State.Hears.execAll_rest {s : State} (h : s.Hears) {bytes : List Byte} (hlen : bytes.length = 7 + (byteAt bytes 4).toNat)
    (hshort : (byteAt bytes 4).toNat ≤ 48) :
    ∀ (rest before : List Byte), before ≠ [] → rest ≠ [] → before ++ rest = bytes →
      execAll ((rest.map fun d => { data := d, mark := false, stop := true }).map .characterReceived) (s.assembling before) =
        .next (s.afterNoise.wholeFrame (rawOfAssembly bytes))
  | [], _, _, hrest, _ => absurd rfl hrest
  | d :: rest, before, hbefore, _, hsplit => by
      have hchar : exec (.characterReceived { data := d, mark := false, stop := true }) (s.assembling before) =
          .next (s.grown (before ++ [d])) := by
        rw [(h.assembling before).exec_character, if_neg (by simp), if_neg (by simpa [State.assembling] using hbefore)]
        rfl
      have hsplit' : (before ++ [d]) ++ rest = bytes := by rw [List.append_assoc]; exact hsplit
      simp only [List.map_cons, execAll, hchar]
      cases rest with
      | nil =>
        rw [List.append_nil] at hsplit'
        rw [hsplit', State.grown, if_neg (by omega), if_neg (by omega), if_neg (by omega)]
        rfl
      | cons e rest =>
        have hpart : (before ++ [d]).length < bytes.length := by
          have htotal := congrArg List.length hsplit'
          simp only [List.length_append, List.length_cons] at htotal ⊢
          omega
        have hgrown : s.grown (before ++ [d]) = s.assembling (before ++ [d]) := by
          unfold State.grown
          by_cases hearly : (before ++ [d]).length < 5
          · rw [if_pos hearly]
          · have hbyte : byteAt (before ++ [d]) 4 = byteAt bytes 4 := by
              rw [← hsplit']
              exact (byteAt_append_left (by omega)).symm
            rw [if_neg hearly, hbyte, if_neg (by omega), if_pos (by omega)]
        rw [hgrown]
        exact h.execAll_rest hlen hshort (e :: rest) (before ++ [d]) (by simp) (by simp) hsplit'

/-- Settles O48: the first character begins the assembly anew, and the last hands the whole frame over. -/
theorem frameByCharacters : Obligations.FrameByCharacters := by
  intro s k f hlen h
  obtain ⟨hlength, hfield, hraw⟩ := rawOfAssembly_lineBytes k hlen
  have hfirst : exec (.characterReceived { data := f.dest, mark := true, stop := true }) s = .next (s.assembling [f.dest]) := by
    rw [h.exec_character, if_pos rfl]
  have hrest := h.execAll_rest (bytes := lineBytes k f) (by rw [hlength, hfield]) (by rw [hfield]; exact hlen) ((lineBytes k f).drop 1) [f.dest] (by simp)
    (fun hnil => by simpa [hlength] using congrArg List.length hnil) rfl
  rw [hraw] at hrest
  rw [h.exec_frame, if_neg (by omega), ← hrest]
  show (match exec (.characterReceived { data := f.dest, mark := true, stop := true }) s with
    | .next t => _ | .fault r => _ | .refused r => _) = _
  rw [hfirst]
  rfl

/-! ### IDENT-REQ (R155) -/

/-- Settles O50: the request taken fills the IDENT slot with the chain, which the hearing of the frame has not changed. -/
theorem identReqAnswered : Obligations.IdentReqAnswered := by
  intro s f htakes
  have hexec : exec (.identReqFrame f) s = .next (s.afterFrame.fillIdent f.src) := congrArg Host.Outcome.next (htakes.frameStep_eq rfl)
  have hchain : s.afterFrame.identChain = s.chainOfR168 :=
    (State.identChain_eq _).trans (State.chainOfR168_congr rfl rfl rfl rfl rfl rfl rfl rfl)
  have hfilled := LineControl.fill_slotFilled s.lineAfterFrame .ident
    { dest := f.src, kind := .ident, tag := 0, payload := s.afterFrame.identChain } s.line s.now
  rw [hchain] at hfilled
  refine ⟨s.valuesInForce, _, hexec, ?_, rfl⟩
  rw [State.fillIdent, hchain]
  exact hfilled

end Sys2Proof.Machine
end

section
/-! PROOF. What a station sends, a peer reads back: report payloads (R165 to R167) and the capability chain (R168, R169). -/

namespace Sys2Proof.Machine

/-! ### Payloads (R165 to R167) -/

/-- A field below 65536 is read back from its two bytes. -/
theorem hiByte_loByte {n : Nat} (h : n < 65536) : (hiByte n).toNat * 256 + (loByte n).toNat = n := by
  simp only [hiByte, loByte, BitVec.toNat_ofNat]
  omega

/-- The RESTART mark of a LEVEL payload stands beside the station state and the SUSPENDED mark (R165). -/
theorem level_restart (st : StationState) (suspended restart : Bool) :
    (st.code ||| markBit 6 suspended ||| markBit 7 restart).getLsbD 7 = restart := by
  cases st <;> cases suspended <;> cases restart <;> decide

/-- The marks of a PORTAL payload stand beside one another (R166). -/
theorem portal_marks (saturated fault restart : Bool) :
    (markBit 0 saturated ||| markBit 1 fault ||| markBit 7 restart).getLsbD 1 = fault ∧
      (markBit 0 saturated ||| markBit 1 fault ||| markBit 7 restart).getLsbD 7 = restart := by
  cases saturated <;> cases fault <;> cases restart <;> decide

theorem readLevel_writeLevel (f : LevelFields) (hd : f.delivered < 65536) (hc : f.configured < 16) (hh : f.healthy < 16) :
    readLevel (writeLevel f) = { delivered := f.delivered, restart := f.restart, configured := f.configured } := by
  have hdelivered : fieldAt (writeLevel f) 0 = f.delivered := hiByte_loByte hd
  have hrestart : (byteAt (writeLevel f) 6).getLsbD 7 = f.restart := level_restart _ _ _
  have hconfigured : (byteAt (writeLevel f) 8).toNat / 16 = f.configured := by
    rw [show byteAt (writeLevel f) 8 = BitVec.ofNat 8 (f.configured * 16 + f.healthy) from rfl, BitVec.toNat_ofNat]
    omega
  rw [readLevel, hdelivered, hrestart, hconfigured]

theorem readPortal_writePortal (f : PortalFields) (hl : f.luminance < 65536) :
    readPortal (writePortal f) =
      { side := some f.side, luminance := f.luminance, sensorFault := f.sensorFault, restart := f.restart } := by
  have hside : Side.ofCode (byteAt (writePortal f) 0) = some f.side := Side.ofCode_code f.side
  have hluminance : fieldAt (writePortal f) 1 = f.luminance := hiByte_loByte hl
  obtain ⟨hfault, hrestart⟩ := portal_marks f.saturated f.sensorFault f.restart
  rw [readPortal, hside, hluminance]
  exact congrArg₂ (PortalReport.mk (some f.side) f.luminance) hfault hrestart

theorem readOverride_writeOverride (kind : OverrideKind) {level duration : Nat} (hl : level < 65536) (hd : duration < 65536) :
    readOverride (writeOverride kind level duration) = { kind := some kind, level := level, duration := duration } := by
  have hkind : overrideOfCode (byteAt (writeOverride kind level duration) 0) = some kind := overrideOfCode_overrideCode kind
  have hlevel : fieldAt (writeOverride kind level duration) 1 = level := hiByte_loByte hl
  have hduration : fieldAt (writeOverride kind level duration) 3 = duration := hiByte_loByte hd
  rw [readOverride, hkind, hlevel, hduration]

/-! ### Reading a chain (R169) -/

/-- The bytes of a list of records, one after another. -/
def chainOf (records : List (Byte × List Byte)) : List Byte := (records.map fun r => r.1 :: BitVec.ofNat 8 r.2.length :: r.2).flatten

theorem length_le_chainOf (records : List (Byte × List Byte)) : records.length ≤ (chainOf records).length := by
  induction records with
  | nil => exact Nat.le_refl _
  | cons r records ih =>
    simp only [chainOf, List.map_cons, List.flatten_cons, List.length_append, List.length_cons] at ih ⊢
    omega

/-- The records of a chain are read back, up to the first that runs past the end. -/
theorem chainRecords_chainOf {rest : List Byte} (hrest : rest.length < 2 ∨ rest.length < 2 + (byteAt rest 1).toNat) :
    ∀ (records : List (Byte × List Byte)) (fuel : Nat), records.length ≤ fuel → (∀ r ∈ records, r.2.length < 256) →
      chainRecords fuel (chainOf records ++ rest) = records
  | [], 0, _, _ => by simp [chainRecords]
  | [], fuel + 1, _, _ => by
      match rest, hrest with
      | [], _ => rfl
      | [_], _ => rfl
      | kind :: len :: content, h =>
        have hlong : ¬len.toNat ≤ content.length := by
          have hbyte : byteAt (kind :: len :: content) 1 = len := rfl
          rw [hbyte] at h
          simp only [List.length_cons] at h
          omega
        exact if_neg hlong
  | (kind, content) :: records, fuel + 1, hfuel, hshort => by
      have hlen : (BitVec.ofNat 8 content.length).toNat = content.length := by
        have hcontent := hshort _ List.mem_cons_self
        rw [BitVec.toNat_ofNat]
        exact Nat.mod_eq_of_lt hcontent
      have hsplit : chainOf ((kind, content) :: records) ++ rest =
          kind :: BitVec.ofNat 8 content.length :: (content ++ (chainOf records ++ rest)) := by simp [chainOf]
      rw [hsplit, chainRecords, hlen, if_pos (by simp), List.take_left, List.drop_left,
        chainRecords_chainOf hrest records fuel (Nat.le_of_succ_le_succ hfuel) fun r hr => hshort r (List.mem_cons_of_mem _ hr)]

/-- The role is read off the last PHOTOMETER record and any CHANNELS record. -/
theorem readRole_chainOf {records : List (Byte × List Byte)} {rest : List Byte} (hshort : ∀ r ∈ records, r.2.length < 256)
    (hrest : rest.length < 2 ∨ rest.length < 2 + (byteAt rest 1).toNat) :
    readRole (chainOf records ++ rest) =
      (((records.filter fun r => r.1 == 2).getLast?).bind fun r => Side.ofCode (byteAt r.2 0), records.any fun r => r.1 == 3) := by
  have hrecords : chainRecords (chainOf records ++ rest).length (chainOf records ++ rest) = records :=
    chainRecords_chainOf hrest records _ ((length_le_chainOf records).trans (by simp)) hshort
  have hlast (kind : Byte) : lastRecord kind (chainOf records ++ rest) = ((records.filter fun r => r.1 == kind).getLast?).map Prod.snd := by
    rw [lastRecord, hrecords, ← List.head?_filter, List.filter_reverse, List.head?_reverse]
  rw [readRole, hlast, hlast]
  refine Prod.ext ?_ ?_
  · cases (records.filter fun r => r.1 == 2).getLast? <;> rfl
  · rw [Option.isSome_map, Bool.eq_iff_iff, List.getLast?_isSome, ne_eq, List.filter_eq_nil_iff, List.any_eq_true]
    simp

/-! ### The chain of a station (R168) -/

/-- The BASE record (R168). -/
def State.baseRecords (s : State) : List (Byte × List Byte) :=
  [(1, [Config.revisionMajor, Config.revisionMinor, s.line.address, s.line.mask, s.le.station.code])]

/-- The PHOTOMETER record, where there is one (R168). -/
def State.photometerRecords (s : State) : List (Byte × List Byte) :=
  if s.le.station.regulates then
    (s.cfg.side.map fun x => (2, [x.code] ++ be16 s.cfg.fullScale ++ [BitVec.ofNat 8 s.pfe.gain.value])).toList
  else []

/-- The CHANNELS record, where there is one (R168). -/
def State.channelsRecords (s : State) : List (Byte × List Byte) :=
  if s.le.station = .fallback ∨ 1 ≤ s.channelCount then
    [(3, [BitVec.ofNat 8 s.channelCount] ++ be16 s.yieldE ++ [s.ch.statesByte, s.ch.openByte, s.protection.code])]
  else []

/-- The POSITION record, where there is one (R168). -/
def State.positionRecords (s : State) : List (Byte × List Byte) :=
  if s.le.station.regulates then [(4, be16 s.cfg.distanceA ++ (s.cfg.distanceB.map be16).getD [])] else []

/-- The COUNTERS record (R168). -/
def State.countersRecords (s : State) : List (Byte × List Byte) :=
  [(5, be16 s.lc.lineResets ++ be16 s.lc.collisionDrops ++ be16 s.lc.crcErrors)]

/-- The records of a station's chain, in their order (R168). -/
def State.records (s : State) : List (Byte × List Byte) :=
  s.baseRecords ++ s.photometerRecords ++ s.channelsRecords ++ s.positionRecords ++ s.countersRecords

theorem chainOf_append (x y : List (Byte × List Byte)) : chainOf (x ++ y) = chainOf x ++ chainOf y := by simp [chainOf]

theorem chainOf_singleton (kind : Byte) (content : List Byte) : chainOf [(kind, content)] = chainRecord kind content := by
  simp [chainOf, chainRecord]

/-- The chain that a station forms is that of its records. -/
theorem State.identChain_eq_chainOf (s : State) : s.identChain = chainOf s.records := by
  have hphotometer : chainOf s.photometerRecords = s.photometerRecord := by
    unfold State.photometerRecord State.photometerRecords
    cases s.le.station.regulates
    · rfl
    · cases s.cfg.side
      · rfl
      · exact chainOf_singleton _ _
  have hchannels : chainOf s.channelsRecords = s.channelsRecord := by
    unfold State.channelsRecord State.channelsRecords
    split
    · exact chainOf_singleton _ _
    · rfl
  have hposition : chainOf s.positionRecords = s.positionRecord := by
    unfold State.positionRecord State.positionRecords
    split
    · exact chainOf_singleton _ _
    · rfl
  simp only [State.records, chainOf_append, hphotometer, hchannels, hposition, State.baseRecords, State.countersRecords,
    chainOf_singleton]
  rfl

theorem State.photometerRecords_spec (s : State) :
    (∀ r ∈ s.photometerRecords, r.1 = 2 ∧ r.2.length < 256) ∧ (chainOf s.photometerRecords).length ≤ 6 ∧
      (s.photometerRecords.getLast?.bind fun r => Side.ofCode (byteAt r.2 0)) = if s.le.station.regulates then s.cfg.side else none := by
  unfold State.photometerRecords
  cases s.le.station.regulates with
  | false => simp [chainOf]
  | true =>
    cases s.cfg.side with
    | none => simp [chainOf]
    | some x => exact ⟨by simp [be16], by simp [chainOf, be16], Side.ofCode_code x⟩

theorem State.channelsRecords_spec (s : State) :
    (∀ r ∈ s.channelsRecords, r.1 = 3 ∧ r.2.length < 256) ∧ (chainOf s.channelsRecords).length ≤ 8 ∧
      (s.channelsRecords ≠ [] ↔ s.le.station = .fallback ∨ 1 ≤ s.channelCount) := by
  unfold State.channelsRecords
  split
  · next h => exact ⟨by simp [be16], by simp [chainOf, be16], by simp [h]⟩
  · next h => exact ⟨by simp, by simp [chainOf], by simp [h]⟩

theorem State.positionRecords_spec (s : State) :
    (∀ r ∈ s.positionRecords, r.1 = 4 ∧ r.2.length < 256) ∧ (chainOf s.positionRecords).length ≤ 6 := by
  unfold State.positionRecords
  split
  · cases s.cfg.distanceB <;> exact ⟨by simp [be16], by simp [chainOf, be16]⟩
  · exact ⟨by simp, by simp [chainOf]⟩

theorem State.baseRecords_spec (s : State) : ∀ r ∈ s.baseRecords, r.1 = 1 ∧ r.2.length < 256 := by simp [State.baseRecords]

theorem State.countersRecords_spec (s : State) : ∀ r ∈ s.countersRecords, r.1 = 5 ∧ r.2.length < 256 := by
  simp [State.countersRecords, be16]

/-- The lengths of a station's chain and what its records say of the role (R168, R169). -/
theorem State.records_spec (s : State) :
    (∀ r ∈ s.records, r.2.length < 256) ∧ 4 ≤ (chainOf s.records).length ∧ (chainOf s.records).length ≤ 48 ∧
      (((s.records.filter fun r => r.1 == 2).getLast?).bind fun r => Side.ofCode (byteAt r.2 0)) =
        (if s.le.station.regulates then s.cfg.side else none) ∧
      (s.records.any fun r => r.1 == 3) = decide (s.le.station = .fallback ∨ 1 ≤ s.channelCount) := by
  obtain ⟨hphotometer, hphotometerLength, hside⟩ := s.photometerRecords_spec
  obtain ⟨hchannels, hchannelsLength, hpresent⟩ := s.channelsRecords_spec
  obtain ⟨hposition, hpositionLength⟩ := s.positionRecords_spec
  have hlength : (chainOf s.records).length = 7 + (chainOf s.photometerRecords).length + (chainOf s.channelsRecords).length +
      (chainOf s.positionRecords).length + 8 := by
    simp only [State.records, chainOf_append, List.length_append]
    rfl
  have hfilter : (s.records.filter fun r => r.1 == 2) = s.photometerRecords := by
    have hskip {l : List (Byte × List Byte)} {kind : Byte} (hne : kind ≠ 2) (hl : ∀ r ∈ l, r.1 = kind ∧ r.2.length < 256) :
        (l.filter fun r => r.1 == 2) = [] :=
      List.filter_eq_nil_iff.2 fun r hr h => hne ((hl r hr).1.symm.trans (beq_iff_eq.1 h))
    rw [State.records, List.filter_append, List.filter_append, List.filter_append, List.filter_append, hskip (by decide) s.baseRecords_spec,
      hskip (by decide) hchannels, hskip (by decide) hposition, hskip (by decide) s.countersRecords_spec,
      List.filter_eq_self.2 fun r hr => beq_iff_eq.2 (hphotometer r hr).1]
    simp
  have hany : (∃ r ∈ s.records, r.1 = 3) ↔ s.channelsRecords ≠ [] := by
    constructor
    · rintro ⟨r, hr, hkind⟩
      simp only [State.records, List.mem_append] at hr
      rcases hr with (((hr | hr) | hr) | hr) | hr
      · exact absurd ((s.baseRecords_spec r hr).1.symm.trans hkind) (by decide)
      · exact absurd ((hphotometer r hr).1.symm.trans hkind) (by decide)
      · exact List.ne_nil_of_mem hr
      · exact absurd ((hposition r hr).1.symm.trans hkind) (by decide)
      · exact absurd ((s.countersRecords_spec r hr).1.symm.trans hkind) (by decide)
    · intro hne
      obtain ⟨r, hr⟩ := List.exists_mem_of_ne_nil _ hne
      exact ⟨r, by simp [State.records, hr], (hchannels r hr).1⟩
  refine ⟨fun r hr => ?_, by omega, by omega, by rw [hfilter]; exact hside, ?_⟩
  · simp only [State.records, List.mem_append] at hr
    rcases hr with (((hr | hr) | hr) | hr) | hr
    · exact (s.baseRecords_spec r hr).2
    · exact (hphotometer r hr).2
    · exact (hchannels r hr).2
    · exact (hposition r hr).2
    · exact (s.countersRecords_spec r hr).2
  · rw [Bool.eq_iff_iff, decide_eq_true_iff, ← hpresent, ← hany, List.any_eq_true]
    simp only [beq_iff_eq]

/-- Settles O51: each payload's fields stand where the reader looks for them, and a chain is read back record by record. -/
theorem reportsReadBack : Obligations.ReportsReadBack := by
  refine ⟨fun f hd hc hh => ⟨rfl, readLevel_writeLevel f hd hc hh⟩, fun f hl => ⟨rfl, readPortal_writePortal f hl⟩,
    fun kind level duration hl hd => ⟨rfl, readOverride_writeOverride kind hl hd⟩, fun s _ => ?chain,
    fun records rest hshort hrest => readRole_chainOf hshort hrest⟩
  case chain =>
    obtain ⟨hshort, hmin, hmax, hside, hluminaire⟩ := s.records_spec
    have hrole := readRole_chainOf (rest := []) hshort (by simp)
    rw [List.append_nil, hside, hluminaire] at hrole
    rw [s.identChain_eq_chainOf]
    exact ⟨hmin, hmax, hrole⟩

end Sys2Proof.Machine
end

section
/-! PROOF. Getting onto the line: the start of an attempt, the sending of its content and the read-back, and the collision (R149,
R157 to R160). -/

namespace Sys2Proof.Machine

/-! ### The start of an attempt (R158) -/

/-- The slot chosen is the occupied one before which every slot is empty. -/
theorem Slots.firstOccupied_eq {t : Slots} {k : SlotId} {c : Content} (h : (t.get k).content = some c)
    (hbefore : ∀ j : SlotId, j.rank < k.rank → (t.get j).content = none) : t.firstOccupied = some (k, c) := by
  cases k
  case override => simp [Slots.firstOccupied, slotOrder, h]
  case portal => simp [Slots.firstOccupied, slotOrder, h, hbefore .override (by decide)]
  case level => simp [Slots.firstOccupied, slotOrder, h, hbefore .override (by decide), hbefore .portal (by decide)]
  case ident =>
    simp [Slots.firstOccupied, slotOrder, h, hbefore .override (by decide), hbefore .portal (by decide), hbefore .level (by decide)]

theorem Slots.firstOccupied_eq_none {t : Slots} (h : ∀ k, (t.get k).content = none) : t.firstOccupied = none := by
  simp [Slots.firstOccupied, h]

theorem LineControl.startAttempt_eq {lc : LineControl} {k : SlotId} {c : Content} (hattempt : lc.attempt = none)
    (hfirst : lc.slots.firstOccupied = some (k, c)) (p : LineParams) (now : Time) :
    lc.startAttempt p now = { lc with attempt := some { slot := k, content := c, refilled := false,
                                                        phase := .waiting (now + accessWait p (lc.slots.get k).attempts) } } := by
  simp only [LineControl.startAttempt, hattempt, hfirst]

theorem LineControl.startAttempt_eq_self {lc : LineControl} (hfirst : lc.slots.firstOccupied = none) (p : LineParams) (now : Time) :
    lc.startAttempt p now = lc := by
  rcases lc.startAttempt_cases p now with ⟨k, c, _, hsome, _⟩ | ⟨_, h⟩
  · exact absurd (hfirst.symm.trans hsome) (by simp)
  · exact h

/-- The start of an attempt changes the attempt alone. -/
theorem LineControl.startAttempt_frame (lc : LineControl) (p : LineParams) (now : Time) :
    lc.startAttempt p now = { lc with attempt := (lc.startAttempt p now).attempt } := by
  rcases lc.startAttempt_cases p now with ⟨_, _, _, _, h⟩ | ⟨_, h⟩
  · rw [h]
  · rw [h]

/-- Settles O52: with no attempt under way the idle line starts one for the slot chosen. -/
theorem idleLineStartsAttempt : Obligations.IdleLineStartsAttempt := by
  intro s hstation hidle hattempt
  let now := max s.now (s.lc.lastChar + 4 * s.line.rate.charTime)
  let quiet : LineControl := { s.lc with idle := true, assembly := [] }
  have hguard : (s.le.station.onLine && !s.lc.idle && !s.lc.sending) = true := by
    rw [(StationState.onLine_iff _).2 hstation, hidle, LineControl.sending, hattempt]
    rfl
  have hexec : exec .lineIdle s = .next { s with now := now, lc := quiet.startAttempt s.line now } := if_pos hguard
  refine ⟨_, hexec, quiet.startAttempt_frame s.line now, fun hempty => ?_, fun k c hcontent hbefore => ?_, rfl⟩
  · show (quiet.startAttempt s.line now).attempt = none
    rw [LineControl.startAttempt_eq_self (lc := quiet) (Slots.firstOccupied_eq_none hempty)]
    exact hattempt
  · exact congrArg LineControl.attempt
      (LineControl.startAttempt_eq (lc := quiet) hattempt (Slots.firstOccupied_eq hcontent hbefore) s.line now)

/-! ### The pins of the line (R149) -/

theorem State.line_released {s : State} (h : s.lc.attempt = none) : s.zde = false ∧ s.ztx = s.powered := by
  simp [State.zde, State.ztx, LineControl.sending, h]

theorem State.line_waiting {s : State} {a : Attempt} {due : Time} (h : s.lc.attempt = some a) (hphase : a.phase = .waiting due) :
    s.zde = false ∧ s.ztx = s.powered := by
  simp [State.zde, State.ztx, LineControl.sending, h, hphase]

theorem State.line_sending {s : State} {a : Attempt} {start : Time} {sent : Nat} (h : s.lc.attempt = some a)
    (hphase : a.phase = .sending start sent) :
    s.zde = s.powered ∧ s.ztx = (s.powered && a.content.levelAt s.line (s.now - start)) := by
  simp [State.zde, State.ztx, LineControl.sending, h, hphase]

/-- Within the time of character `i` the level is that of its bit. -/
theorem Content.levelAt_of_getElem {c : Content} {p : LineParams} {i elapsed : Nat} {x : LineChar} (hx : (c.chars p.address)[i]? = some x)
    (helapsed : elapsed < p.rate.charTime) :
    c.levelAt p (i * p.rate.charTime + elapsed) = lineBit x (elapsed * 11 / p.rate.charTime) := by
  have hpos : 0 < p.rate.charTime := Nat.zero_lt_of_lt helapsed
  have hindex : (i * p.rate.charTime + elapsed) / p.rate.charTime = i := by
    rw [Nat.mul_comm, Nat.mul_add_div hpos, Nat.div_eq_of_lt helapsed, Nat.add_zero]
  have hwithin : (i * p.rate.charTime + elapsed) % p.rate.charTime = elapsed := by
    rw [Nat.mul_comm, Nat.mul_add_mod, Nat.mod_eq_of_lt helapsed]
  rw [Content.levelAt, hindex, hx, hwithin]

theorem lineBit_data (c : LineChar) {j : Nat} (h : j < 8) : lineBit c (j + 1) = c.data.getLsbD j := by
  rw [lineBit, if_neg (Nat.succ_ne_zero j), if_pos (by omega), Nat.add_sub_cancel]

theorem lineBit_stop (c : LineChar) {i : Nat} (h : 10 ≤ i) : lineBit c i = true := by
  rw [lineBit, if_neg (by omega), if_neg (by omega), if_neg (by omega)]

/-- The bits of a character by the elevenths of its time: start, data, mark and stop. -/
theorem lineBit_of_time (c : LineChar) {elapsed char : Nat} (hpos : 0 < char) :
    (elapsed * 11 < char → lineBit c (elapsed * 11 / char) = false) ∧
      (∀ j < 8, (j + 1) * char ≤ elapsed * 11 → elapsed * 11 < (j + 2) * char → lineBit c (elapsed * 11 / char) = c.data.getLsbD j) ∧
      (9 * char ≤ elapsed * 11 → elapsed * 11 < 10 * char → lineBit c (elapsed * 11 / char) = c.mark) ∧
      (10 * char ≤ elapsed * 11 → lineBit c (elapsed * 11 / char) = true) := by
  refine ⟨fun h => ?start, fun j hj hlo hhi => ?data, fun hlo hhi => ?mark, fun h => ?stop⟩
  case start => rw [Nat.div_eq_of_lt h]; rfl
  case data => rw [Nat.div_eq_of_lt_le hlo hhi, lineBit_data c hj]
  case mark => rw [Nat.div_eq_of_lt_le hlo hhi]; rfl
  case stop => exact lineBit_stop c ((Nat.le_div_iff_mul_le hpos).2 h)

/-! ### The end of an attempt (R157, R159) -/

/-- A content sent: what becomes of the line controller, the owners and the pins. -/
theorem State.finishSending_spec (s : State) (a : Attempt) :
    (s.finishSending a).lc = { s.lc with
        slots := s.lc.slots.set a.slot ((s.lc.slots.get a.slot).emptied a.refilled), attempt := none, idle := false,
        lastChar := s.now, guardTimer := some (s.now + s.line.rate.charTime), act := s.lc.act.lightened s.now } ∧
      (s.finishSending a).pfe = (if a.slot = .portal then { s.pfe with restartPending := false } else s.pfe) ∧
      (s.finishSending a).le = (if a.slot = .level then { s.le with restartPending := false } else s.le) ∧
      s.finishSending a = { s with lc := (s.finishSending a).lc, pfe := (s.finishSending a).pfe, le := (s.finishSending a).le } := by
  unfold State.finishSending
  cases a.slot
  case override => exact ⟨rfl, rfl, rfl, rfl⟩
  case portal => exact ⟨rfl, rfl, rfl, rfl⟩
  case level => exact ⟨rfl, rfl, rfl, rfl⟩
  case ident => exact ⟨rfl, rfl, rfl, rfl⟩

/-- A collision below the limit: the slot keeps its content and counts (R159). -/
theorem State.collide_of_lt {s : State} {a : Attempt} (h : (s.lc.slots.get a.slot).attempts + 1 < 8) :
    s.collide a = { s with lc := { s.lc.released s.line s.now with
      slots := s.lc.slots.set a.slot { s.lc.slots.get a.slot with attempts := (s.lc.slots.get a.slot).attempts + 1 } } } := if_pos h

/-- The eighth collision: the content is dropped (R160). -/
theorem State.collide_of_ge {s : State} {a : Attempt} (h : 8 ≤ (s.lc.slots.get a.slot).attempts + 1) :
    s.collide a = { s with
      lc := { s.lc.released s.line s.now with
        slots := s.lc.slots.set a.slot ((s.lc.slots.get a.slot).emptied a.refilled),
        collisionDrops := min (s.lc.collisionDrops + 1) 65535 },
      fr := s.fr.raiseIf true .collisionLimit } := if_neg (Nat.not_lt.2 h)

theorem State.collide_attempt (s : State) (a : Attempt) : (s.collide a).lc.attempt = none := by
  rcases Nat.lt_or_ge ((s.lc.slots.get a.slot).attempts + 1) 8 with hretry | hdrop
  · rw [State.collide_of_lt hretry]; rfl
  · rw [State.collide_of_ge hdrop]; rfl

section
variable {s : State} {a : Attempt}

theorem exec_accessWaitExpiry {due : Time} (h : s.lc.attempt = some a) (hphase : a.phase = .waiting due) :
    exec .accessWaitExpiry s = .next { s.elapseTo (max due (s.lc.guardTimer.getD 0)) with
      lc := s.lc.startSending a (max s.now (max due (s.lc.guardTimer.getD 0))) } := by
  show execAccessWaitExpiry s = _
  simp only [execAccessWaitExpiry, h, hphase]
  rfl

theorem exec_contentSent {start : Time} {sent : Nat} (h : s.lc.attempt = some a) (hphase : a.phase = .sending start sent) :
    exec .contentSent s = .next ((s.elapseTo (start + a.content.frameLength * s.line.rate.charTime)).finishSending a) := by
  show execContentSent s = _
  simp only [execContentSent, h, hphase]

theorem exec_collision {start : Time} {sent : Nat} (h : s.lc.attempt = some a) (hphase : a.phase = .sending start sent) :
    exec .collision s = .next ((s.elapseTo (start + (sent + 1) * s.line.rate.charTime)).collide a) := by
  show execCollision s = _
  simp only [execCollision, h, hphase]

/-- While sending, a character received is the read-back (R159, log 8). -/
theorem exec_readBack {start : Time} {sent : Nat} (hstation : s.le.station ≠ .configuring) (h : s.lc.attempt = some a)
    (hphase : a.phase = .sending start sent) (c : LineChar) :
    exec (.characterReceived c) s = .next (s.readBackCharacter a start sent c) := by
  show execCharacterReceived c s = _
  simp only [execCharacterReceived, (StationState.onLine_iff _).2 hstation, if_true, h, hphase]

end

/-- Settles O53: the pins follow the phase of the attempt, and the end of the content is that of the attempt. -/
theorem attemptSendsContent : Obligations.AttemptSendsContent := by
  refine ⟨fun s hpowered h => ?_, fun s a h => ⟨fun hpowered due hphase => ?_, fun hpowered start sent hphase => ⟨?_, ?_⟩,
    fun due hphase => exec_accessWaitExpiry h hphase, fun start sent hphase => ?_⟩⟩
  · obtain ⟨hzde, hztx⟩ := State.line_released h
    exact ⟨hzde, hztx.trans hpowered⟩
  · obtain ⟨hzde, hztx⟩ := State.line_waiting h hphase
    exact ⟨hzde, hztx.trans hpowered⟩
  · exact (State.line_sending h hphase).1.trans hpowered
  · intro i elapsed c hc hnow helapsed
    have hztx : s.ztx = lineBit c (elapsed * 11 / s.line.rate.charTime) := by
      rw [(State.line_sending h hphase).2, hpowered, Bool.true_and, ← Content.levelAt_of_getElem hc helapsed]
      congr 1
      rw [hnow, Nat.add_assoc, Nat.add_sub_cancel_left]
      rfl
    rw [hztx]
    exact lineBit_of_time c (Nat.zero_lt_of_lt helapsed)
  · obtain ⟨hlc, hpfe, hle, hframe⟩ :=
      (s.elapseTo (start + a.content.frameLength * s.line.rate.charTime)).finishSending_spec a
    obtain ⟨hzde, hztx⟩ := State.line_released ((congrArg LineControl.attempt hlc :))
    refine ⟨_, exec_contentSent h hphase, ?_, fun k hk => ?_, ?_, hpfe, hle, hzde, hztx.trans (State.finishSending_powered _ a), hframe⟩
    · rw [hlc]; exact Slots.get_set_self _ _ _
    · rw [hlc]; exact Slots.get_set_ne _ _ hk
    · rw [hlc]; rfl

/-! ### The read-back (R159) -/

theorem Content.length_chars (c : Content) (address : Byte) : (c.chars address).length = c.frameLength := by
  simp [Content.chars, markedChars, frameBytes, be16, Content.frameLength]
  omega

/-- The state while sending after the character before `readBack` has come back. -/
def State.readBackTo (s : State) (a : Attempt) (start : Time) (readBack : Nat) : State :=
  let now := max s.now (start + readBack * s.line.rate.charTime)
  { s with now := now, lc := { s.lc with idle := false, lastChar := now, attempt := some { a with phase := .sending start readBack } } }

/-- What the read-back has moved until then, the end of the content sets anyway. -/
theorem State.finishSending_readBackTo (s : State) (a : Attempt) (start : Time) {readBack n : Nat} (h : readBack ≤ n) :
    ((s.readBackTo a start readBack).elapseTo (start + n * s.line.rate.charTime)).finishSending a =
      (s.elapseTo (start + n * s.line.rate.charTime)).finishSending a := by
  have hnow : max (max s.now (start + readBack * s.line.rate.charTime)) (start + n * s.line.rate.charTime) =
      max s.now (start + n * s.line.rate.charTime) := by
    rw [max_assoc, max_eq_right (Nat.add_le_add_left (Nat.mul_le_mul_right _ h) start)]
  simp only [State.finishSending, State.readBackTo, State.elapseTo, State.line, LineControl.released] at hnow ⊢
  rw [hnow]

/-- A character that comes back unchanged, and is not the last. -/
theorem State.readBackCharacter_same {s : State} {a : Attempt} {start : Time} {sent : Nat} {c : LineChar}
    (hc : (a.content.chars s.line.address)[sent]? = some c) (hmore : sent + 1 < a.content.frameLength) :
    s.readBackCharacter a start sent c = s.readBackTo a start (sent + 1) := by
  simp only [State.readBackCharacter, hc, and_self, if_true, if_pos hmore]
  rfl

/-- The last character, come back unchanged. -/
theorem State.readBackCharacter_last {s : State} {a : Attempt} {start : Time} {sent : Nat} {c : LineChar}
    (hc : (a.content.chars s.line.address)[sent]? = some c) (hlast : sent + 1 = a.content.frameLength) :
    s.readBackCharacter a start sent c = (s.elapseTo (start + a.content.frameLength * s.line.rate.charTime)).finishSending a := by
  simp only [State.readBackCharacter, hc, and_self, if_true, hlast, Nat.lt_irrefl, if_false]

/-- A character that comes back changed. -/
theorem State.readBackCharacter_different {s : State} {a : Attempt} {start : Time} {sent : Nat} {mine heard : LineChar}
    (hc : (a.content.chars s.line.address)[sent]? = some mine) (hne : heard.data ≠ mine.data ∨ heard.mark ≠ mine.mark) :
    s.readBackCharacter a start sent heard = (s.elapseTo (start + (sent + 1) * s.line.rate.charTime)).collide a := by
  have hdiffer : ¬(mine.data = heard.data ∧ mine.mark = heard.mark) :=
    fun ⟨hdata, hmark⟩ => hne.elim (· hdata.symm) (· hmark.symm)
  simp only [State.readBackCharacter, hc, if_neg hdiffer]

/-- The remaining characters of a content, taken one by one, are the end of its sending. -/
theorem State.execAll_readBack {a : Attempt} {start : Time} (rest : List LineChar) :
    ∀ (s : State) (b : Attempt) (sent : Nat), s.le.station ≠ .configuring → s.lc.attempt = some b →
      b = { a with phase := .sending start sent } → (a.content.chars s.line.address).drop sent = rest → rest ≠ [] →
      execAll (rest.map .characterReceived) s =
        .next ((s.elapseTo (start + a.content.frameLength * s.line.rate.charTime)).finishSending a) := by
  induction rest with
  | nil => exact fun _ _ _ _ _ _ _ hne => absurd rfl hne
  | cons c rest ih =>
    intro s b sent hstation h hb hdrop _
    have hc : (b.content.chars s.line.address)[sent]? = some c := by
      rw [hb, ← List.head?_drop, hdrop, List.head?_cons]
    have hlen : a.content.frameLength = sent + (rest.length + 1) := by
      have := congrArg List.length hdrop
      rw [List.length_drop, Content.length_chars, List.length_cons] at this
      omega
    have hstep := exec_readBack hstation h (by rw [hb]) c
    show (match exec (.characterReceived c) s with
      | .next t => execAll (rest.map .characterReceived) t
      | .fault r => .fault r
      | .refused r => .refused r) = _
    rw [hstep]
    cases rest with
    | nil =>
      rw [State.readBackCharacter_last hc (by rw [hb]; exact hlen.symm), hb]
      rfl
    | cons d rest =>
      rw [State.readBackCharacter_same hc (by rw [hb]; show _ < a.content.frameLength; rw [hlen]; simp)]
      show execAll ((d :: rest).map .characterReceived) (s.readBackTo b start (sent + 1)) = _
      rw [ih (s.readBackTo b start (sent + 1)) _ (sent + 1) hstation rfl (by rw [hb]) ?_ (List.cons_ne_nil _ _)]
      · have := s.finishSending_readBackTo b start (readBack := sent + 1) (n := a.content.frameLength) (by omega)
        rw [hb] at this ⊢
        exact congrArg Host.Outcome.next this
      · show (a.content.chars s.line.address).drop (sent + 1) = d :: rest
        rw [← List.drop_drop, hdrop]
        rfl

/-- Settles O54: an induction over the characters still to come back. -/
theorem readBackDecidesAttempt : Obligations.ReadBackDecidesAttempt := by
  intro s a start hstation h
  refine ⟨fun hphase => ?_, fun sent mine heard hphase hmine hne => ?_⟩
  · rw [exec_contentSent h hphase]
    refine State.execAll_readBack _ s a 0 hstation h (by rw [← hphase]) rfl (fun hnil => ?_)
    simpa [Content.length_chars, Content.frameLength] using congrArg List.length hnil
  · rw [exec_readBack hstation h hphase, State.readBackCharacter_different hmine hne, exec_collision h hphase]

/-! ### The collision (R159, R160) -/

/-- Settles O55: the two branches of the attempt limit. -/
theorem collisionRetriesThenDrops : Obligations.CollisionRetriesThenDrops := by
  intro s a start sent h hphase
  let late := s.elapseTo (start + (sent + 1) * s.line.rate.charTime)
  have hexec : exec .collision s = .next (late.collide a) := exec_collision h hphase
  obtain ⟨hzde, hztx⟩ := State.line_released (late.collide_attempt a)
  rcases Nat.lt_or_ge ((s.lc.slots.get a.slot).attempts + 1) 8 with hretry | hdrop
  case inl =>
    rw [State.collide_of_lt (s := late) hretry] at hexec hzde hztx
    exact ⟨_, hexec, rfl, fun k hk => Slots.get_set_ne _ _ hk, fun _ => ⟨Slots.get_set_self _ _ _, rfl, rfl⟩,
      fun hge => absurd hretry (Nat.not_lt.2 hge), hzde, hztx, rfl, rfl⟩
  case inr =>
    rw [State.collide_of_ge (s := late) hdrop] at hexec hzde hztx
    exact ⟨_, hexec, rfl, fun k hk => Slots.get_set_ne _ _ hk, fun hlt => absurd hlt (Nat.not_lt.2 hdrop),
      fun _ => ⟨Slots.get_set_self _ _ _, rfl, rfl⟩, hzde, hztx, rfl, rfl⟩

end Sys2Proof.Machine
end
